-- ==== Sys2Proof/Word.lean ====
section
/-! DEFINITION. The widths of the block's values: every value is an unsigned bit vector (00_scope.md R9). -/

namespace Sys2Proof

/-- One byte: the width of every CPU-visible register and of every I/O transaction (20_memory.md R46, R49). -/
abbrev Byte := BitVec 8

/-- A CPU I/O port address, `IO_ADDR_BITS` = 8 bits wide (00_scope.md R7). -/
abbrev Port := BitVec 8

/-- An operation word (30_encoding.md R61, R75). -/
abbrev Word := BitVec 32

/-- One touchpad row register: bit `c` is the cell at column `c` (10_state.md R31). -/
abbrev Row := BitVec 24

/-- A register offset handed to a collaborator; five bits hold the widest one, `A[4:0]` of the expansion window
(30_encoding.md R72). Narrower offsets are widened with zeros. -/
abbrev Offset := BitVec 5

end Sys2Proof
end

