-- ==== Sys2Proof/Config.lean ====
section
/-! DEFINITION. The configuration layer: the fixed numbers of 00_scope.md R7, the OPEN parameters with their constraints R8,
and the free values that the environment supplies. -/

namespace Sys2Proof

/-! ## Fixed numbers -/

namespace Config

/-- `IDLE`: what an unmapped read returns (00_scope.md R7). -/
abbrev idle : Byte := 0xFF#8
/-- `PORTC_IN`: the port C input value (00_scope.md R7). -/
abbrev portCIn : Byte := 0xFF#8
/-- `VEC_VIDEO` (00_scope.md R7, 40_interrupt.md R91). -/
abbrev vecVideo : Byte := 0xF8#8
/-- `VEC_SPEECH` (00_scope.md R7, 40_interrupt.md R91). -/
abbrev vecSpeech : Byte := 0xFB#8
/-- `VIDEO_BIT` (00_scope.md R7). -/
abbrev videoBit : Fin 8 := 0

/-- Ports of the port map (41_dispatcher.md R95). A window of `2^n` ports is named by its first port. -/
abbrev vdpBase : Port := 0x00#8
/-- First port of the parallel-interface window (41_dispatcher.md R95). -/
abbrev ppiBase : Port := 0x04#8
/-- First port of the serial-interface window (41_dispatcher.md R95). -/
abbrev sioBase : Port := 0x08#8
/-- First unidentified write-only port (41_dispatcher.md R110). -/
abbrev unid0A : Port := 0x0A#8
/-- The speech control port (41_dispatcher.md R102). -/
abbrev spkCtl : Port := 0x0B#8
/-- The sound chip's port (41_dispatcher.md R104). -/
abbrev psgPort : Port := 0x0C#8
/-- First port of the unidentified pair 0x0E, 0x0F (41_dispatcher.md R110). -/
abbrev unid0E : Port := 0x0E#8
/-- The speech data port 0x14 and its mirror 0x15 (41_dispatcher.md R106). -/
abbrev spkDataBase : Port := 0x14#8
/-- The unidentified port 0x1F (41_dispatcher.md R110). -/
abbrev unid1F : Port := 0x1F#8
/-- `EXP_BASE`, first port of the expansion window (00_scope.md R7). -/
abbrev expBase : Port := 0x20#8
/-- First port of the unmapped quarter 0x40..0x7F (41_dispatcher.md R95). -/
abbrev unmapped40 : Port := 0x40#8
/-- First port of the unmapped half 0x80..0xFF (41_dispatcher.md R95). -/
abbrev unmapped80 : Port := 0x80#8

/-- `FREE`: the ports of 0x00..0x3F that the source assigns to nothing else (00_scope.md R7). -/
def freePorts : List Port :=
  [0x0D#8, 0x10#8, 0x11#8, 0x12#8, 0x13#8, 0x16#8, 0x17#8, 0x18#8, 0x19#8, 0x1A#8, 0x1B#8, 0x1C#8, 0x1D#8, 0x1E#8]

end Config

/-! ## OPEN parameters -/

/-- The three latched touchpad control registers (10_state.md R28). -/
inductive TpReg where
  | rowsel | mode | unused
deriving DecidableEq, Repr, Inhabited

/-- The OPEN parameters of 00_scope.md R7, as plain data. Names follow the spec's. -/
structure Params where
  /-- `SPEECH_BIT`, the speech source's bit in both masks. -/
  speechBit : Fin 8
  /-- `VEC_SERIAL_A`, reserved, never returned. -/
  vecSerialA : Byte
  /-- `VEC_SERIAL_B`, reserved, never returned. -/
  vecSerialB : Byte
  /-- `P_INT_ENABLE`, the port of the enable register. -/
  pIntEnable : Port
  /-- `P_INT_SELECT`, the port of the select register. -/
  pIntSelect : Port
  /-- `P_TP_ROWSEL`, the port that writes rowSelectReg. -/
  pTpRowsel : Port
  /-- `P_TP_MODE`, the port that writes modeReg. -/
  pTpMode : Port
  /-- `P_TP_UNUSED`, the port that writes unusedReg. -/
  pTpUnused : Port
  /-- `P_TP_COORD`, the port that reads the coordinate register. -/
  pTpCoord : Port
  /-- `XTAB`, X pixel position per column. -/
  xtab : Vector Byte 24
  /-- `YTAB`, Y pixel position per row. -/
  ytab : Vector Byte 20
  /-- `CSEL_REG`, the control register that holds column-select. -/
  cselReg : TpReg
  /-- `CSEL_MASK`, the one bit of it that is column-select. -/
  cselMask : Byte
  /-- `SCAN_REG`, the control register that holds scan-enable. -/
  scanReg : TpReg
  /-- `SCAN_MASK`, the one bit of it that is scan-enable. -/
  scanMask : Byte
  /-- `PB_AVAIL_BIT`, the port-B bit "data available". -/
  pbAvailBit : Fin 8
  /-- `PB_PRESS_BIT`, the port-B bit "pressed". -/
  pbPressBit : Fin 8
  /-- `SPK_MD_BIT`, the bit of a 0x0B write that is the mode-select line. -/
  spkMdBit : Fin 8
  /-- `SPK_BANK_BIT`, the bit of a 0x0B write that is the bank-select line. -/
  spkBankBit : Fin 8
  /-- `PA_BUSY_BIT`, the port-A bit that carries the speech chip's busy flag; inside an external byte, read by no rule. -/
  paBusyBit : Fin 8
deriving DecidableEq, Repr, Inhabited

/-- Exactly one bit of the byte is set (00_scope.md R8 (d)). -/
def oneBitSet (m : Byte) : Bool := (List.finRange 8).any fun i => m == 1#8 <<< i.val

/-- The constraints of 00_scope.md R8 (a) to (e), and those R7's table states beside them (the table entries given, the two pairs
of distinct bit positions). R8 (f) holds by type. -/
def Params.valid (p : Params) : Bool :=
  -- R8 (a)
  let writePorts := [p.pIntEnable, p.pIntSelect, p.pTpRowsel, p.pTpMode, p.pTpUnused]
  writePorts.all (· ∈ Config.freePorts) && decide writePorts.Nodup
  -- R8 (b)
  && decide (p.pTpCoord ∈ Config.freePorts) && p.pTpCoord != p.pIntEnable && p.pTpCoord != p.pIntSelect
  -- R8 (c), (d), (e)
  && p.cselReg != p.scanReg
  && oneBitSet p.cselMask && oneBitSet p.scanMask
  && p.speechBit != 0
  -- R7
  && p.xtab[0] == 5#8 && p.ytab[0] == 6#8
  && p.pbAvailBit != p.pbPressBit
  && p.spkMdBit != p.spkBankBit

/-- The test instantiation `T1` of 92_eei_decisions.md D25. It is not the hardware's values: it serves tests and as the witness that
valid parameters exist. The table entries that T1 leaves symbolic are made distinct here. -/
def Params.t1 : Params where
  speechBit := 3
  vecSerialA := 0
  vecSerialB := 0
  pIntEnable := 0x10
  pIntSelect := 0x11
  pTpRowsel := 0x18
  pTpMode := 0x19
  pTpUnused := 0x1A
  pTpCoord := 0x19
  xtab := Vector.ofFn fun c => BitVec.ofNat 8 (5 + c.val)
  ytab := Vector.ofFn fun r => BitVec.ofNat 8 (6 + 3 * r.val)
  cselReg := .mode
  cselMask := 0x01
  scanReg := .rowsel
  scanMask := 0x80
  pbAvailBit := 6
  pbPressBit := 7
  spkMdBit := 0
  spkBankBit := 1
  paBusyBit := 7

/-- An instantiation of the OPEN parameters that obeys 00_scope.md R8: one that breaks a constraint cannot be built, which is how the
model refuses it. The default value is only the witness that one exists. -/
structure Instantiation where
  params : Params := Params.t1
  obeys : params.valid = true := by decide
deriving DecidableEq, Repr, Inhabited

/-- Take parameters as an instantiation, or refuse them (00_scope.md R8). -/
def Instantiation.ofParams? (p : Params) : Option Instantiation :=
  if h : p.valid = true then some ⟨p, h⟩ else none

/-! ## Free values -/

/-- The collaborators an access is forwarded to (00_scope.md R3, 41_dispatcher.md R96 to R109). -/
inductive Device where
  | vdp | ppi | sio | psg | speech | exp
deriving DecidableEq, Repr

/-- The names of the external values `Ext(name)` (00_scope.md R10). -/
inductive ExtName where
  /-- A read of the interrupt enable port (40_interrupt.md R83). -/
  | intEnableRead
  /-- A read of the interrupt select port (40_interrupt.md R85). -/
  | intSelectRead
  /-- A read of port 0x0B (41_dispatcher.md R103). -/
  | port0BRead
  /-- A read of port 0x0C (41_dispatcher.md R105). -/
  | port0CRead
  /-- A read of the speech data port (41_dispatcher.md R107). -/
  | speechPortRead
  /-- A read of a touchpad control port (42_touchpad.md R123). -/
  | tpCtrlRead
  /-- The port-B bits other than the two status bits (42_touchpad.md R126). -/
  | tapeBits
  /-- The port-A input byte (41_dispatcher.md R113). -/
  | portA
deriving DecidableEq, Repr

namespace Config

/-- The hardware's values of the OPEN parameters: not in the source, so nothing is known of them but R8. Log entry 1. -/
opaque instantiation : Instantiation

/-- What collaborator `dev` answers at an offset, the `n`-th time the environment is asked for a value: under no law
(00_scope.md R10). Log entry 2. -/
opaque fwdRead : Device → Offset → Nat → Byte

/-- The `n`-th external value, for `Ext(name)`: under no law (00_scope.md R10). Log entry 2. -/
opaque ext : ExtName → Nat → Byte

end Config

end Sys2Proof
end

