-- ==== Sys2Proof/Syntax.lean ====
section
/-! DEFINITION. The operations the block accepts: one constructor per row of spec/opcode_table.json, in the table's order
(30_encoding.md R62 to R70). Operands are the bits of the word that the row leaves free. -/

namespace Sys2Proof

/-- One operation. `off` is the offset inside a window, `d` a data byte, `l` a level. -/
inductive Instr where
  | iorVdp (off : BitVec 2)
  | iowVdp (off : BitVec 2) (d : Byte)
  | iorPpi (off : BitVec 2)
  | iowPpi (off : BitVec 2) (d : Byte)
  | iorSio (off : BitVec 1)
  | iowSio (off : BitVec 1) (d : Byte)
  | iorUnmapped0A
  | iowUnid0A (d : Byte)
  | iorSpkctl
  | iowSpkctl (d : Byte)
  | iorPsg
  | iowPsg (d : Byte)
  | iorUnmapped0E0F (off : BitVec 1)
  | iowUnid0E0F (off : BitVec 1) (d : Byte)
  /-- `mirror` is 0 for port 0x14, 1 for its mirror 0x15. -/
  | iorSpkdata (mirror : BitVec 1)
  | iowSpkdata (mirror : BitVec 1) (d : Byte)
  | iorUnmapped1F
  | iowUnid1F (d : Byte)
  | iorExp (off : BitVec 5)
  | iowExp (off : BitVec 5) (d : Byte)
  | iorUnmapped407F (off : BitVec 6)
  | iorUnmapped80FF (off : BitVec 7)
  | iowUnmapped407F (off : BitVec 6) (d : Byte)
  | iowUnmapped80FF (off : BitVec 7) (d : Byte)
  | iowIntEnable (d : Byte)
  | iorIntEnable
  | iowIntSelect (d : Byte)
  | iorIntSelect
  | iowTpRowsel (d : Byte)
  | iowTpMode (d : Byte)
  | iowTpUnused (d : Byte)
  | iorTpCoord
  /-- The read of the port that writes control register `r`. -/
  | iorTpCtrl (r : TpReg)
  | iorUnmappedFree (a : Port)
  | iowUnmappedFree (a : Port) (d : Byte)
  | edgeVideo (l : Bool)
  | edgeSpeech (l : Bool)
  | edgeBusy (l : Bool)
  | inta
  | row (r : Fin 20) (c : Row)
  | pbin
  | pain
  | pcin
  | pcout (d : Byte)
deriving DecidableEq, Repr

/-- The eight classes of operation words (30_encoding.md R62). -/
inductive OpClass where
  | ior | iow | edge | inta | row | pbin | pain | pc
deriving DecidableEq, Repr

/-- The agents that present operations (30_encoding.md R62). -/
inductive Agent where
  | cpu | videoChip | speechChip | hostInput | ppiChip
deriving DecidableEq, Repr

/-- The class of an operation (30_encoding.md R62). -/
def Instr.opClass : Instr → OpClass
  | .iorVdp _ | .iorPpi _ | .iorSio _ | .iorUnmapped0A | .iorSpkctl | .iorPsg | .iorUnmapped0E0F _ | .iorSpkdata _
  | .iorUnmapped1F | .iorExp _ | .iorUnmapped407F _ | .iorUnmapped80FF _ | .iorIntEnable | .iorIntSelect | .iorTpCoord
  | .iorTpCtrl _ | .iorUnmappedFree _ => .ior
  | .iowVdp _ _ | .iowPpi _ _ | .iowSio _ _ | .iowUnid0A _ | .iowSpkctl _ | .iowPsg _ | .iowUnid0E0F _ _
  | .iowSpkdata _ _ | .iowUnid1F _ | .iowExp _ _ | .iowUnmapped407F _ _ | .iowUnmapped80FF _ _ | .iowIntEnable _
  | .iowIntSelect _ | .iowTpRowsel _ | .iowTpMode _ | .iowTpUnused _ | .iowUnmappedFree _ _ => .iow
  | .edgeVideo _ | .edgeSpeech _ | .edgeBusy _ => .edge
  | .inta => .inta
  | .row _ _ => .row
  | .pbin => .pbin
  | .pain => .pain
  | .pcin | .pcout _ => .pc

/-- Who presents an operation (30_encoding.md R62, 20_memory.md R45): an EDGE comes from the chip whose line it is. -/
def Instr.agent : Instr → Agent
  | .iorVdp _ | .iorPpi _ | .iorSio _ | .iorUnmapped0A | .iorSpkctl | .iorPsg | .iorUnmapped0E0F _ | .iorSpkdata _
  | .iorUnmapped1F | .iorExp _ | .iorUnmapped407F _ | .iorUnmapped80FF _ | .iorIntEnable | .iorIntSelect | .iorTpCoord
  | .iorTpCtrl _ | .iorUnmappedFree _ => .cpu
  | .iowVdp _ _ | .iowPpi _ _ | .iowSio _ _ | .iowUnid0A _ | .iowSpkctl _ | .iowPsg _ | .iowUnid0E0F _ _
  | .iowSpkdata _ _ | .iowUnid1F _ | .iowExp _ _ | .iowUnmapped407F _ _ | .iowUnmapped80FF _ _ | .iowIntEnable _
  | .iowIntSelect _ | .iowTpRowsel _ | .iowTpMode _ | .iowTpUnused _ | .iowUnmappedFree _ _ => .cpu
  | .inta => .cpu
  | .edgeVideo _ => .videoChip
  | .edgeSpeech _ | .edgeBusy _ => .speechChip
  | .row _ _ => .hostInput
  | .pbin | .pain | .pcin | .pcout _ => .ppiChip

/-- Why a word spells no operation (30_encoding.md R71). -/
inductive DecodeError where
  /-- A reserved bit is set. -/
  | reservedBits
  /-- An EDGE word with `SRC = 0b11`. -/
  | reservedSource
  /-- A ROW word with `R` in 20..31. -/
  | reservedRow
deriving DecidableEq, Repr

end Sys2Proof
end

