-- ==== Sys2Proof/WellFormed.lean ====
section
/-! DEFINITION. Which terms of `Instr` stand for an operation under given parameters: the constraints that the opcode table states
on a row's port and that the type does not carry (30_encoding.md R73, 41_dispatcher.md R95). -/

namespace Sys2Proof

/-- The port that writes a touchpad control register (42_touchpad.md R116 to R118). -/
def Params.tpPort (p : Params) : TpReg → Port
  | .rowsel => p.pTpRowsel
  | .mode => p.pTpMode
  | .unused => p.pTpUnused

/-- A parameter gives this port a read handler (41_dispatcher.md R95). -/
def Params.takenForRead (p : Params) (a : Port) : Bool :=
  a == p.pIntEnable || a == p.pIntSelect || a == p.pTpCoord || a == p.pTpRowsel || a == p.pTpMode || a == p.pTpUnused

/-- A parameter gives this port a write handler (41_dispatcher.md R95). -/
def Params.takenForWrite (p : Params) (a : Port) : Bool :=
  a == p.pIntEnable || a == p.pIntSelect || a == p.pTpRowsel || a == p.pTpMode || a == p.pTpUnused

/-- The operation spells a row of the port map under these parameters. Three rows have a check; the operands of every other row are
legal at every value of their type. -/
def Instr.wellFormed (p : Params) : Instr → Bool
  -- 42_touchpad.md R123: only a control port that is not the coordinate port
  | .iorTpCtrl r => p.tpPort r != p.pTpCoord
  -- 41_dispatcher.md R111, R112: only a free port that no parameter takes
  | .iorUnmappedFree a => decide (a ∈ Config.freePorts) && !p.takenForRead a
  | .iowUnmappedFree a _ => decide (a ∈ Config.freePorts) && !p.takenForWrite a
  | .iorVdp _ | .iorPpi _ | .iorSio _ | .iorUnmapped0A | .iorSpkctl | .iorPsg | .iorUnmapped0E0F _ | .iorSpkdata _
  | .iorUnmapped1F | .iorExp _ | .iorUnmapped407F _ | .iorUnmapped80FF _ | .iorIntEnable | .iorIntSelect | .iorTpCoord
  | .iowVdp _ _ | .iowPpi _ _ | .iowSio _ _ | .iowUnid0A _ | .iowSpkctl _ | .iowPsg _ | .iowUnid0E0F _ _
  | .iowSpkdata _ _ | .iowUnid1F _ | .iowExp _ _ | .iowUnmapped407F _ _ | .iowUnmapped80FF _ _ | .iowIntEnable _
  | .iowIntSelect _ | .iowTpRowsel _ | .iowTpMode _ | .iowTpUnused _ | .edgeVideo _ | .edgeSpeech _ | .edgeBusy _
  | .inta | .row _ _ | .pbin | .pain | .pcin | .pcout _ => true

end Sys2Proof
end

