-- ==== Sys2Proof/Decode.lean ====
section
/-! DEFINITION. Decoding an operation word, and after it the encoder, both written from 30_encoding.md R61 to R76 and the port map of
41_dispatcher.md R95. Decoding takes the OPEN parameters as an argument, because the ports of the interrupt and touchpad
registers are among them. -/

namespace Sys2Proof

/-! ## Fields of a word -/

/-- The class field `K`, bits 31:29 (30_encoding.md R61). -/
def classField (w : Word) : BitVec 3 := w.extractLsb' 29 3

/-- The port address `A`, bits 15:8 (30_encoding.md R63, R64). -/
def portField (w : Word) : Port := w.extractLsb' 8 8

/-- The data byte `D`, bits 7:0 (30_encoding.md R64, R70). -/
def dataField (w : Word) : Byte := w.extractLsb' 0 8

/-- The class that a class field selects (30_encoding.md R62). -/
def OpClass.ofCode (k : BitVec 3) : OpClass :=
  if k = 0b000#3 then .ior else if k = 0b001#3 then .iow else if k = 0b010#3 then .edge
  else if k = 0b011#3 then .inta else if k = 0b100#3 then .row else if k = 0b101#3 then .pbin
  else if k = 0b110#3 then .pain else .pc

/-! ## The port map -/

/-- Port `a` lies in the window of `2^n` ports that starts at `base` (41_dispatcher.md R95). -/
def inWindow (base : Port) (n : Nat) (a : Port) : Bool := a >>> n == base >>> n

/-- The read handler of a port that no fixed window claims (41_dispatcher.md R95, rows from `P_INT_ENABLE` to `FREE`). The coordinate
register comes before the control ports because it wins where they share a port. -/
def freeReadHandler (p : Params) (a : Port) : Instr :=
  if a = p.pIntEnable then .iorIntEnable
  else if a = p.pIntSelect then .iorIntSelect
  else if a = p.pTpCoord then .iorTpCoord
  else if a = p.pTpRowsel then .iorTpCtrl .rowsel
  else if a = p.pTpMode then .iorTpCtrl .mode
  else if a = p.pTpUnused then .iorTpCtrl .unused
  else .iorUnmappedFree a

/-- The write handler of a port that no fixed window claims (41_dispatcher.md R95). -/
def freeWriteHandler (p : Params) (a : Port) (d : Byte) : Instr :=
  if a = p.pIntEnable then .iowIntEnable d
  else if a = p.pIntSelect then .iowIntSelect d
  else if a = p.pTpRowsel then .iowTpRowsel d
  else if a = p.pTpMode then .iowTpMode d
  else if a = p.pTpUnused then .iowTpUnused d
  else .iowUnmappedFree a d

/-- The dispatcher for reads: a total function of the port (41_dispatcher.md R93 to R95). -/
def readHandler (p : Params) (a : Port) : Instr :=
  if inWindow Config.vdpBase 2 a then .iorVdp (a.setWidth 2)
  else if inWindow Config.ppiBase 2 a then .iorPpi (a.setWidth 2)
  else if inWindow Config.sioBase 1 a then .iorSio (a.setWidth 1)
  else if a = Config.unid0A then .iorUnmapped0A
  else if a = Config.spkCtl then .iorSpkctl
  else if a = Config.psgPort then .iorPsg
  else if inWindow Config.unid0E 1 a then .iorUnmapped0E0F (a.setWidth 1)
  else if inWindow Config.spkDataBase 1 a then .iorSpkdata (a.setWidth 1)
  else if a = Config.unid1F then .iorUnmapped1F
  else if inWindow Config.expBase 5 a then .iorExp (a.setWidth 5)
  else if inWindow Config.unmapped40 6 a then .iorUnmapped407F (a.setWidth 6)
  else if inWindow Config.unmapped80 7 a then .iorUnmapped80FF (a.setWidth 7)
  else freeReadHandler p a

/-- The dispatcher for writes (41_dispatcher.md R93 to R95). -/
def writeHandler (p : Params) (a : Port) (d : Byte) : Instr :=
  if inWindow Config.vdpBase 2 a then .iowVdp (a.setWidth 2) d
  else if inWindow Config.ppiBase 2 a then .iowPpi (a.setWidth 2) d
  else if inWindow Config.sioBase 1 a then .iowSio (a.setWidth 1) d
  else if a = Config.unid0A then .iowUnid0A d
  else if a = Config.spkCtl then .iowSpkctl d
  else if a = Config.psgPort then .iowPsg d
  else if inWindow Config.unid0E 1 a then .iowUnid0E0F (a.setWidth 1) d
  else if inWindow Config.spkDataBase 1 a then .iowSpkdata (a.setWidth 1) d
  else if a = Config.unid1F then .iowUnid1F d
  else if inWindow Config.expBase 5 a then .iowExp (a.setWidth 5) d
  else if inWindow Config.unmapped40 6 a then .iowUnmapped407F (a.setWidth 6) d
  else if inWindow Config.unmapped80 7 a then .iowUnmapped80FF (a.setWidth 7) d
  else freeWriteHandler p a d

/-! ## The decoder -/

/-- An IOR word: bits 28:16 and 7:0 are reserved (30_encoding.md R63). -/
def decodeIor (p : Params) (w : Word) : Except DecodeError Instr :=
  if w.extractLsb' 16 13 = 0#13 ∧ w.extractLsb' 0 8 = 0#8 then .ok (readHandler p (portField w))
  else .error .reservedBits

/-- An IOW word: bits 28:16 are reserved (30_encoding.md R64). -/
def decodeIow (p : Params) (w : Word) : Except DecodeError Instr :=
  if w.extractLsb' 16 13 = 0#13 then .ok (writeHandler p (portField w) (dataField w))
  else .error .reservedBits

/-- An EDGE word: bits 28:10 and 7:1 are reserved, bits 9:8 name the source (30_encoding.md R65). -/
def decodeEdge (w : Word) : Except DecodeError Instr :=
  if w.extractLsb' 10 19 = 0#19 ∧ w.extractLsb' 1 7 = 0#7 then
    if w.extractLsb' 8 2 = 0b00#2 then .ok (.edgeVideo (w.getLsbD 0))
    else if w.extractLsb' 8 2 = 0b01#2 then .ok (.edgeSpeech (w.getLsbD 0))
    else if w.extractLsb' 8 2 = 0b10#2 then .ok (.edgeBusy (w.getLsbD 0))
    else .error .reservedSource
  else .error .reservedBits

/-- A word of a class without operands: bits 28:0 are reserved (30_encoding.md R66, R68, R69). -/
def decodeBare (i : Instr) (w : Word) : Except DecodeError Instr :=
  if w.extractLsb' 0 29 = 0#29 then .ok i else .error .reservedBits

/-- A ROW word: bits 28:24 are the row index, of which 20..31 are reserved (30_encoding.md R67). -/
def decodeRow (w : Word) : Except DecodeError Instr :=
  if h : (w.extractLsb' 24 5).toNat < 20 then .ok (.row ⟨(w.extractLsb' 24 5).toNat, h⟩ (w.extractLsb' 0 24))
  else .error .reservedRow

/-- A PC word: bits 28:9 are reserved, bit 8 is `W`, and bits 7:0 are reserved when `W = 0` (30_encoding.md R70). -/
def decodePc (w : Word) : Except DecodeError Instr :=
  if w.extractLsb' 9 20 = 0#20 then
    if w.getLsbD 8 then .ok (.pcout (dataField w))
    else if dataField w = 0#8 then .ok .pcin
    else .error .reservedBits
  else .error .reservedBits

/-- The operation a word spells, or why it spells none (30_encoding.md R71, R73). -/
def decode (p : Params) (w : Word) : Except DecodeError Instr :=
  match OpClass.ofCode (classField w) with
  | .ior => decodeIor p w
  | .iow => decodeIow p w
  | .edge => decodeEdge w
  | .inta => decodeBare .inta w
  | .row => decodeRow w
  | .pbin => decodeBare .pbin w
  | .pain => decodeBare .pain w
  | .pc => decodePc w

/-- The operation in a number of `nbits` bits, under the hardware's own parameters. Every operation word is 32 bits: a number that needs
more spells no operation (30_encoding.md R75, 20_memory.md R47; log entry 8). `State.withFetchWord` cuts such a number instead: log
entry 14. DESIGN CHOICE, log entry 14: the spec has one length only (R75), so it does not say what a number of a stated length under 32 bits spells. Such a
number is read as the 32-bit word whose upper bits are 0. -/
def decodeTableWord (nbits w : Nat) : Option Instr :=
  if w % 2 ^ nbits < 2 ^ 32 then
    match decode Config.instantiation.params (BitVec.ofNat 32 (w % 2 ^ nbits)) with
    | .ok i => some i
    | .error _ => none
  else none

/-! ## The encoder -/

/-- The code of a class (30_encoding.md R62). -/
def OpClass.code : OpClass → BitVec 3
  | .ior => 0b000#3
  | .iow => 0b001#3
  | .edge => 0b010#3
  | .inta => 0b011#3
  | .row => 0b100#3
  | .pbin => 0b101#3
  | .pain => 0b110#3
  | .pc => 0b111#3

/-- The port at an offset of a window: the low bits of the base are zero (41_dispatcher.md R95). -/
def windowPort {n : Nat} (base : Port) (off : BitVec n) : Port := base ||| off.setWidth 8

/-- `IOR a` (30_encoding.md R63, R76). -/
def iorWord (a : Port) : Word := OpClass.ior.code ++ 0#13 ++ a ++ 0#8

/-- `IOW a, d` (30_encoding.md R64, R76). -/
def iowWord (a : Port) (d : Byte) : Word := OpClass.iow.code ++ 0#13 ++ a ++ d

/-- `EDGE src, l` (30_encoding.md R65, R76). -/
def edgeWord (src : BitVec 2) (l : Bool) : Word := OpClass.edge.code ++ 0#19 ++ src ++ 0#7 ++ BitVec.ofBool l

/-- A word of a class without operands (30_encoding.md R66, R68, R69). -/
def bareWord (k : OpClass) : Word := k.code ++ 0#29

/-- `ROW r, c` (30_encoding.md R67, R76). -/
def rowWord (r : Fin 20) (c : Row) : Word := OpClass.row.code ++ BitVec.ofNat 5 r.val ++ c

/-- `PCIN` and `PCOUT d` (30_encoding.md R70, R76). -/
def pcWord (w : Bool) (d : Byte) : Word := OpClass.pc.code ++ 0#20 ++ BitVec.ofBool w ++ d

/-- The word of a well-formed operation (30_encoding.md R63 to R70, R76). -/
def encode (p : Params) : Instr → Word
  | .iorVdp off => iorWord (windowPort Config.vdpBase off)
  | .iowVdp off d => iowWord (windowPort Config.vdpBase off) d
  | .iorPpi off => iorWord (windowPort Config.ppiBase off)
  | .iowPpi off d => iowWord (windowPort Config.ppiBase off) d
  | .iorSio off => iorWord (windowPort Config.sioBase off)
  | .iowSio off d => iowWord (windowPort Config.sioBase off) d
  | .iorUnmapped0A => iorWord Config.unid0A
  | .iowUnid0A d => iowWord Config.unid0A d
  | .iorSpkctl => iorWord Config.spkCtl
  | .iowSpkctl d => iowWord Config.spkCtl d
  | .iorPsg => iorWord Config.psgPort
  | .iowPsg d => iowWord Config.psgPort d
  | .iorUnmapped0E0F off => iorWord (windowPort Config.unid0E off)
  | .iowUnid0E0F off d => iowWord (windowPort Config.unid0E off) d
  | .iorSpkdata mirror => iorWord (windowPort Config.spkDataBase mirror)
  | .iowSpkdata mirror d => iowWord (windowPort Config.spkDataBase mirror) d
  | .iorUnmapped1F => iorWord Config.unid1F
  | .iowUnid1F d => iowWord Config.unid1F d
  | .iorExp off => iorWord (windowPort Config.expBase off)
  | .iowExp off d => iowWord (windowPort Config.expBase off) d
  | .iorUnmapped407F off => iorWord (windowPort Config.unmapped40 off)
  | .iorUnmapped80FF off => iorWord (windowPort Config.unmapped80 off)
  | .iowUnmapped407F off d => iowWord (windowPort Config.unmapped40 off) d
  | .iowUnmapped80FF off d => iowWord (windowPort Config.unmapped80 off) d
  | .iowIntEnable d => iowWord p.pIntEnable d
  | .iorIntEnable => iorWord p.pIntEnable
  | .iowIntSelect d => iowWord p.pIntSelect d
  | .iorIntSelect => iorWord p.pIntSelect
  | .iowTpRowsel d => iowWord p.pTpRowsel d
  | .iowTpMode d => iowWord p.pTpMode d
  | .iowTpUnused d => iowWord p.pTpUnused d
  | .iorTpCoord => iorWord p.pTpCoord
  | .iorTpCtrl r => iorWord (p.tpPort r)
  | .iorUnmappedFree a => iorWord a
  | .iowUnmappedFree a d => iowWord a d
  | .edgeVideo l => edgeWord 0b00#2 l
  | .edgeSpeech l => edgeWord 0b01#2 l
  | .edgeBusy l => edgeWord 0b10#2 l
  | .inta => bareWord .inta
  | .row r c => rowWord r c
  | .pbin => bareWord .pbin
  | .pain => bareWord .pain
  | .pcin => pcWord false 0#8
  | .pcout d => pcWord true d

/-! ## The written notation (30_encoding.md R76), as the numbers its table gives -/

/-- `IOR a`. -/
def spellIor (a : Port) : Word := 0x00000000#32 ||| a.setWidth 32 <<< 8

/-- `IOW a, d`. -/
def spellIow (a : Port) (d : Byte) : Word := 0x20000000#32 ||| a.setWidth 32 <<< 8 ||| d.setWidth 32

/-- `EDGE VIDEO, l`. -/
def spellEdgeVideo (l : Bool) : Word := 0x40000000#32 ||| (BitVec.ofBool l).setWidth 32

/-- `EDGE SPEECH, l`. -/
def spellEdgeSpeech (l : Bool) : Word := 0x40000100#32 ||| (BitVec.ofBool l).setWidth 32

/-- `EDGE BUSY, l`. -/
def spellEdgeBusy (l : Bool) : Word := 0x40000200#32 ||| (BitVec.ofBool l).setWidth 32

/-- `INTA`. -/
def spellInta : Word := 0x60000000#32

/-- `ROW r, c`. -/
def spellRow (r : Fin 20) (c : Row) : Word := 0x80000000#32 ||| BitVec.ofNat 32 r.val <<< 24 ||| c.setWidth 32

/-- `PBIN`. -/
def spellPbin : Word := 0xA0000000#32

/-- `PAIN`. -/
def spellPain : Word := 0xC0000000#32

/-- `PCIN`. -/
def spellPcin : Word := 0xE0000000#32

/-- `PCOUT d`. -/
def spellPcout (d : Byte) : Word := 0xE0000100#32 ||| d.setWidth 32

/-! ## Pseudo-operations (30_encoding.md R76) -/

/-- `ENABLE m`. -/
def pseudoEnable (m : Byte) : Instr := .iowIntEnable m

/-- `SETEN p`: `IOW P_INT_SELECT, (p << 1) | 1`. -/
def pseudoSeten (pin : Fin 8) : Instr := .iowIntSelect (BitVec.ofNat 8 pin.val <<< 1 ||| 1#8)

/-- `CLREN p`: `IOW P_INT_SELECT, p << 1`. -/
def pseudoClren (pin : Fin 8) : Instr := .iowIntSelect (BitVec.ofNat 8 pin.val <<< 1)

/-- `PSG d`: `IOW 0x0C, d`. -/
def pseudoPsg (d : Byte) : Instr := .iowPsg d

end Sys2Proof
end

