-- ==== Sys2Proof/Machine/State.lean ====
section
/-! DEFINITION. The state: the block's own record as 10_state.md R22 gives it, and beside it the model's own fields for the block's
boundary and the OPEN parameters. All of it is plain data. -/

namespace Sys2Proof.Machine

/-- The two sub-cases of the fatal acknowledge (60_exceptions.md R133). -/
inductive FatalKind where
  /-- No source is both pending and enabled. -/
  | noneActive
  /-- A pending and enabled bit of no wired source; unreachable from reset (40_interrupt.md R92). -/
  | foreignActive
deriving DecidableEq, Repr

/-- The record of the fatal acknowledge: the two masks as they stood (60_exceptions.md R133). -/
structure FatalAck where
  kind : FatalKind
  pending : Byte
  enabled : Byte
deriving DecidableEq, Repr

/-- The block state `S`: exactly the fields of 10_state.md R22. -/
structure Block where
  /-- `S.pending` (10_state.md R23). -/
  pending : Byte
  /-- `S.enabled` (10_state.md R24). -/
  enabled : Byte
  /-- `S.vector`, the last vector returned (10_state.md R25). -/
  vector : Byte
  /-- `S.prev[VIDEO]` (10_state.md R26). -/
  prevVideo : Bool
  /-- `S.prev[SPEECH]` (10_state.md R26). -/
  prevSpeech : Bool
  /-- `S.irq`, the CPU interrupt request line (10_state.md R27). -/
  irq : Bool
  /-- `S.tp_rowsel` (10_state.md R28). -/
  tpRowsel : Byte
  /-- `S.tp_mode` (10_state.md R28). -/
  tpMode : Byte
  /-- `S.tp_unused` (10_state.md R28). -/
  tpUnused : Byte
  /-- `S.sampledX` (10_state.md R30). -/
  sampledX : Byte
  /-- `S.sampledY` (10_state.md R30). -/
  sampledY : Byte
  /-- `S.row[0..19]` (10_state.md R31). -/
  row : Vector Row 20
  /-- `S.spk_md`, the mode-select line (10_state.md R33). -/
  spkMd : Bool
  /-- `S.spk_bank`, the bank-select line (10_state.md R33). -/
  spkBank : Bool
  /-- `S.fault` (10_state.md R34). -/
  fault : Option FatalAck
deriving DecidableEq, Repr

/-- The output lines to the speech chip (10_state.md R33). -/
inductive Line where
  | modeSelect | bankSelect
deriving DecidableEq, Repr

/-- What an operation does beyond the block: the primitives `IoFwdRead`, `IoFwdWrite`, `Drive`, `Log` of 00_scope.md R10. -/
inductive Action where
  | fwdRead (dev : Device) (off : Offset)
  | fwdWrite (dev : Device) (off : Offset) (v : Byte)
  | drive (line : Line) (level : Bool)
  /-- The diagnostic of a port C write (41_dispatcher.md R115). -/
  | logPortC (d : Byte)
deriving DecidableEq, Repr

/-- The model's own record of the block's boundary. None of it is in 10_state.md R22; log entries 2, 3 and 4. -/
structure Boundary where
  /-- The operation words presented and not yet performed, the next one first (00_scope.md R4). -/
  inbox : List Word
  /-- What the last operation handed back to its caller (00_scope.md R10, `return v`). -/
  result : Option Byte
  /-- The actions so far, newest first. -/
  trace : List Action
  /-- How many values the environment has been asked for. -/
  tick : Nat
deriving DecidableEq, Repr

/-- The whole state. -/
structure State where
  /-- The block state `S`. -/
  blk : Block
  /-- The boundary (the model's own). -/
  io : Boundary
  /-- The OPEN parameters this block is built with; no step changes them (00_scope.md R7; log entry 1). -/
  inst : Instantiation
deriving DecidableEq, Repr

/-- The parameters of a state's instantiation. -/
abbrev State.params (s : State) : Params := s.inst.params

/-- Why the machine stops with a fault. -/
inductive Fault where
  /-- The block is faulted: every operation presented after the fatal acknowledge (60_exceptions.md R134) raises it, with the record
  that the acknowledge stored. Safe: a run that reaches it goes no further. -/
  | fatalAck (r : FatalAck)
deriving DecidableEq, Repr

/-- Why the machine refuses. -/
inductive Refusal where
  /-- An arm of the dispatch that has no meaning yet raises it. Safe. -/
  | notModelled (mnemonic : String)
  /-- A presented word that spells no operation raises it (30_encoding.md R71). Safe: no such word occurs on the real interface. -/
  | invalidWord (e : DecodeError)
deriving DecidableEq, Repr

/-- The block after reset (10_state.md R43). `vector`, `sampledX` and `sampledY` are unspecified there: their zero is a DESIGN CHOICE,
log entry 5. -/
def Block.reset : Block where
  pending := 0x00
  enabled := 0x00
  vector := 0x00
  prevVideo := false
  prevSpeech := false
  irq := false
  tpRowsel := 0x00
  tpMode := 0x00
  tpUnused := 0x00
  sampledX := 0x00
  sampledY := 0x00
  row := Vector.replicate 20 0
  spkMd := false
  spkBank := false
  fault := none

/-- The boundary before anything has happened. DESIGN CHOICE, log entries 2 to 4. -/
def Boundary.reset : Boundary where
  inbox := []
  result := none
  trace := []
  tick := 0

/-- The machine right after reset (10_state.md R43, 70_reset_and_hazards.md R149), with the hardware's own, unknown parameters. -/
def State.reset : State where
  blk := Block.reset
  io := Boundary.reset
  inst := Config.instantiation

end Sys2Proof.Machine
end

