-- ==== Sys2Proof/Machine/Operands.lean ====
section
/-! DEFINITION. Operand assembly (30_encoding.md R72) and the operations on one bit of a byte that the rules write `v[i]` and
`S.f[i] <- b` (00_scope.md R9, R10). -/

namespace Sys2Proof.Machine

/-- `v[i]` (00_scope.md R9). -/
def bitAt (v : Byte) (i : Fin 8) : Bool := v.getLsbD i.val

/-- `v[i] <- b`: the byte with bit `i` set or cleared, the other seven as they were (00_scope.md R10). -/
def putBit (v : Byte) (i : Fin 8) (b : Bool) : Byte :=
  if b then v ||| (1#8 <<< i.val) else v &&& ~~~(1#8 <<< i.val)

/-- `pinIndex = (D >> 1) & 0x7` of a writeSelect byte (30_encoding.md R72). -/
def pinIndex (d : Byte) : Fin 8 := ((d >>> 1) &&& 0x7#8).toFin.castLT (by
  have h : ((d >>> 1) &&& 0x7#8).toNat ≤ 7 := by
    rw [BitVec.toNat_and]; exact Nat.and_le_right
  exact Nat.lt_succ_of_le h)

/-- `setBit = D & 0x1` of a writeSelect byte (30_encoding.md R72). -/
def selectSets (d : Byte) : Bool := (d &&& 0x1#8) == 1#8

/-- The speech mode-select level `D[SPK_MD_BIT]` (30_encoding.md R72). -/
def speechModeLevel (p : Params) (d : Byte) : Bool := bitAt d p.spkMdBit

/-- The speech bank-select level `D[SPK_BANK_BIT]` (30_encoding.md R72). -/
def speechBankLevel (p : Params) (d : Byte) : Bool := bitAt d p.spkBankBit

/-- A register offset as its collaborator sees it: the low bits of the port, widened with zeros (30_encoding.md R72). -/
def regOffset {n : Nat} (off : BitVec n) : Offset := off.setWidth 5

/-- The wired interrupt sources (40_interrupt.md R77). -/
inductive Source where
  | video | speech
deriving DecidableEq, Repr

/-- The bit of a source in both masks (40_interrupt.md R77). -/
def Source.bit (p : Params) : Source → Fin 8
  | .video => Config.videoBit
  | .speech => p.speechBit

/-- The vector of a source (40_interrupt.md R77, R91). -/
def Source.vector : Source → Byte
  | .video => Config.vecVideo
  | .speech => Config.vecSpeech

end Sys2Proof.Machine
end

