-- ==== Sys2Proof/Machine/Flags.lean ====
section
/-! DEFINITION. Every flag and status bit the block computes (10_state.md R40): the interrupt line, the two touchpad flags and the two
port-B status bits. -/

namespace Sys2Proof.Machine

/-- The level of the interrupt line for given masks (10_state.md R27, 40_interrupt.md R78). -/
def lineLevel (pending enabled : Byte) : Bool := pending &&& enabled != 0#8

/-- `S.tp[r]` (10_state.md R29). -/
def Block.tp (b : Block) : TpReg → Byte
  | .rowsel => b.tpRowsel
  | .mode => b.tpMode
  | .unused => b.tpUnused

/-- `scanEnable` (10_state.md R29, 42_touchpad.md R119). -/
def Block.scanEnable (p : Params) (b : Block) : Bool := b.tp p.scanReg &&& p.scanMask != 0#8

/-- `columnSelect` (10_state.md R29, 42_touchpad.md R119). -/
def Block.columnSelect (p : Params) (b : Block) : Bool := b.tp p.cselReg &&& p.cselMask != 0#8

/-- The port-B value while scanning is enabled: available asserted, pressed the negation of the scan's answer, both active low; the other
bits are the environment's (42_touchpad.md R125, R126). -/
def portBScanning (p : Params) (tape : Byte) (pressed : Bool) : Byte :=
  putBit (putBit tape p.pbAvailBit false) p.pbPressBit (!pressed)

/-- The port-B value while scanning is disabled: available deasserted, pressed forced asserted (42_touchpad.md R125). -/
def portBIdle (p : Params) (tape : Byte) : Byte :=
  putBit (putBit tape p.pbAvailBit true) p.pbPressBit false

end Sys2Proof.Machine
end

