-- ==== Sys2Proof/Machine/Ops.lean ====
section
/-! DEFINITION. The named operations the meanings share: over the block (latch, masks, arbiter with its fatal error, scan) and over the
boundary (forwarding, external values, results). -/

namespace Sys2Proof.Machine

/-! ## The interrupt latch, masks and arbiter -/

/-- recomputeLine (40_interrupt.md R78). -/
def Block.recomputeLine (b : Block) : Block := { b with irq := lineLevel b.pending b.enabled }

/-- `S.prev[src]` (10_state.md R26). -/
def Block.prev (b : Block) : Source → Bool
  | .video => b.prevVideo
  | .speech => b.prevSpeech

/-- `S.prev[src] <- l`: the other source's level stays (40_interrupt.md R80). -/
def Block.setPrev (b : Block) (src : Source) (l : Bool) : Block :=
  match src with
  | .video => { b with prevVideo := l }
  | .speech => { b with prevSpeech := l }

/-- The signal callback of a source: a rising edge sets its pending bit, the level is stored, the line is recomputed
(40_interrupt.md R79, R80). -/
def Block.signalEdge (p : Params) (src : Source) (l : Bool) (b : Block) : Block :=
  let pending := if l && !b.prev src then putBit b.pending (src.bit p) true else b.pending
  ({ b with pending := pending }.setPrev src l).recomputeLine

/-- writeEnable (40_interrupt.md R81). -/
def Block.writeEnable (d : Byte) (b : Block) : Block := { b with enabled := d }.recomputeLine

/-- writeSelect (40_interrupt.md R82). -/
def Block.writeSelect (d : Byte) (b : Block) : Block :=
  { b with enabled := putBit b.enabled (pinIndex d) (selectSets d) }.recomputeLine

/-- An acknowledge of the chosen source: its pending bit is cleared, its vector stored, the line recomputed (40_interrupt.md R84). -/
def Block.serve (p : Params) (src : Source) (b : Block) : Block :=
  { b with pending := putBit b.pending (src.bit p) false, vector := src.vector }.recomputeLine

/-- Taking the one exception the block has: FatalAck records both masks as they stood; no pending bit changes
(60_exceptions.md R133). There is no return from it (60_exceptions.md R134, R141). -/
def Block.raiseFatalAck (b : Block) : Block :=
  let kind := if b.pending &&& b.enabled = 0#8 then FatalKind.noneActive else FatalKind.foreignActive
  { b with fault := some { kind := kind, pending := b.pending, enabled := b.enabled } }

/-- The source an acknowledge chooses: the first in priority order that is pending and enabled (40_interrupt.md R84, R90). -/
def Block.chosenSource (p : Params) (b : Block) : Option Source :=
  if bitAt (b.pending &&& b.enabled) (Source.video.bit p) then some .video
  else if bitAt (b.pending &&& b.enabled) (Source.speech.bit p) then some .speech
  else none

/-- acknowledge: the block after it, and the vector it returns if it is not fatal (40_interrupt.md R84). -/
def Block.acknowledge (p : Params) (b : Block) : Block × Option Byte :=
  match b.chosenSource p with
  | some src => (b.serve p src, some src.vector)
  | none => (b.raiseFatalAck, none)

/-! ## The touchpad -/

/-- `lowbit(v)`: the lowest set bit of a row register; none for 0, where no rule applies it (00_scope.md R9). -/
def lowbit (v : Row) : Option (Fin 24) := (List.finRange 24).find? fun c => v.getLsbD c.val

/-- The lowest row that has a touched cell (42_touchpad.md R121). -/
def firstTouchedRow (rows : Vector Row 20) : Option (Fin 20) := (List.finRange 20).find? fun r => rows[r] != 0#24

/-- The cell a scan reports: the lowest touched row, then its lowest touched column (42_touchpad.md R121, R127). -/
def firstTouched (rows : Vector Row 20) : Option (Fin 20 × Fin 24) :=
  match firstTouchedRow rows with
  | some r => (lowbit rows[r]).map fun c => (r, c)
  | none => none

/-- isPressed, the scan: the block after it and its answer (42_touchpad.md R121). -/
def Block.isPressed (p : Params) (b : Block) : Block × Bool :=
  match firstTouched b.row with
  | some (r, c) => ({ b with sampledX := p.xtab[c], sampledY := p.ytab[r] }, true)
  | none => (b, false)

/-- The port-B sample: the block after it and the value returned; `tape` is the environment's byte (42_touchpad.md R125). -/
def Block.samplePortB (p : Params) (tape : Byte) (b : Block) : Block × Byte :=
  if b.scanEnable p then ((b.isPressed p).1, portBScanning p tape (b.isPressed p).2)
  else (b, portBIdle p tape)

/-- readCoordinate (42_touchpad.md R122). -/
def Block.readCoordinate (p : Params) (b : Block) : Byte := if b.columnSelect p then b.sampledY else b.sampledX

/-- A touchpad control register latches a byte (42_touchpad.md R116 to R118). -/
def Block.latchTp (r : TpReg) (d : Byte) (b : Block) : Block :=
  match r with
  | .rowsel => { b with tpRowsel := d }
  | .mode => { b with tpMode := d }
  | .unused => { b with tpUnused := d }

/-- The host sets a row register (42_touchpad.md R120). -/
def Block.setRow (r : Fin 20) (c : Row) (b : Block) : Block := { b with row := b.row.set r.val c r.isLt }

/-- The speech control write (41_dispatcher.md R102). -/
def Block.speechControl (p : Params) (d : Byte) (b : Block) : Block :=
  { b with spkMd := speechModeLevel p d, spkBank := speechBankLevel p d }

/-! ## The boundary -/

/-- One atomic operation (00_scope.md R11), which a faulted block no longer performs (10_state.md R34, 60_exceptions.md R134). -/
def State.operate (s : State) (k : State → State) : Host.Outcome State Fault Refusal :=
  match s.blk.fault with
  | some r => .fault (.fatalAck r)
  | none => .next (k s)

/-- Change the block state. -/
def State.mapBlock (s : State) (f : Block → Block) : State := { s with blk := f s.blk }

/-- The operation hands `v` back to its caller, or nothing (00_scope.md R10). -/
def State.answer (s : State) (v : Option Byte) : State := { s with io := { s.io with result := v } }

/-- Perform an outward action (00_scope.md R10). -/
def State.act (s : State) (a : Action) : State := { s with io := { s.io with trace := a :: s.io.trace } }

/-- One more value has been taken from the environment. -/
def State.advance (s : State) : State := { s with io := { s.io with tick := s.io.tick + 1 } }

/-- `return IoFwdRead(dev, off)` (00_scope.md R10): the answer is a free value. -/
def State.forwardRead (s : State) (dev : Device) (off : Offset) : State :=
  ((s.act (.fwdRead dev off)).answer (some (Config.fwdRead dev off s.io.tick))).advance

/-- `IoFwdWrite(dev, off, d)`, returning nothing (00_scope.md R10). -/
def State.forwardWrite (s : State) (dev : Device) (off : Offset) (d : Byte) : State :=
  (s.act (.fwdWrite dev off d)).answer none

/-- `return Ext(name)` (00_scope.md R10): a free value. -/
def State.answerExt (s : State) (name : ExtName) : State := (s.answer (some (Config.ext name s.io.tick))).advance

/-- Take the next presented word: the word, and the state with it taken (00_scope.md R4; log entry 3). -/
def State.fetch (s : State) : Option (Word × State) :=
  match s.io.inbox with
  | [] => none
  | w :: rest => some (w, { s with io := { s.io with inbox := rest } })

/-- Present a word ahead of those already waiting. -/
def State.present (s : State) (w : Word) : State := { s with io := { s.io with inbox := w :: s.io.inbox } }

end Sys2Proof.Machine
end

