-- ==== Sys2Proof/Machine/Forward.lean ====
section
/-! DEFINITION. The meanings of the ports that belong to collaborators (41_dispatcher.md §2 to §4): forwarding windows, the speech and sound
ports, the expansion window. -/

namespace Sys2Proof.Machine

/-- `IOR a`, a in 0x00..0x03 (41_dispatcher.md R96). -/
def execIorVdp (off : BitVec 2) (s : State) : Host.Outcome State Fault Refusal :=
  s.operate fun s => s.forwardRead .vdp (regOffset off)

/-- `IOW a, d`, a in 0x00..0x03 (41_dispatcher.md R97). -/
def execIowVdp (off : BitVec 2) (d : Byte) (s : State) : Host.Outcome State Fault Refusal :=
  s.operate fun s => s.forwardWrite .vdp (regOffset off) d

/-- `IOR a`, a in 0x04..0x07; the port samples it may cause are operations of their own (41_dispatcher.md R98). -/
def execIorPpi (off : BitVec 2) (s : State) : Host.Outcome State Fault Refusal :=
  s.operate fun s => s.forwardRead .ppi (regOffset off)

/-- `IOW a, d`, a in 0x04..0x07 (41_dispatcher.md R99). -/
def execIowPpi (off : BitVec 2) (d : Byte) (s : State) : Host.Outcome State Fault Refusal :=
  s.operate fun s => s.forwardWrite .ppi (regOffset off) d

/-- `IOR a`, a in 0x08..0x09 (41_dispatcher.md R100). -/
def execIorSio (off : BitVec 1) (s : State) : Host.Outcome State Fault Refusal :=
  s.operate fun s => s.forwardRead .sio (regOffset off)

/-- `IOW a, d`, a in 0x08..0x09 (41_dispatcher.md R101). -/
def execIowSio (off : BitVec 1) (d : Byte) (s : State) : Host.Outcome State Fault Refusal :=
  s.operate fun s => s.forwardWrite .sio (regOffset off) d

/-- `IOW 0x0B, d`: the two lines are latched and driven, mode-select first (41_dispatcher.md R102). -/
def execIowSpkctl (d : Byte) (s : State) : Host.Outcome State Fault Refusal :=
  s.operate fun s =>
    (((s.mapBlock (Block.speechControl s.params d)).act (.drive .modeSelect (speechModeLevel s.params d))).act
      (.drive .bankSelect (speechBankLevel s.params d))).answer none

/-- `IOR 0x0B`: any byte (41_dispatcher.md R103). -/
def execIorSpkctl (s : State) : Host.Outcome State Fault Refusal :=
  s.operate fun s => s.answerExt .port0BRead

/-- `IOW 0x0C, d`: the sound chip's one write register (41_dispatcher.md R104). -/
def execIowPsg (d : Byte) (s : State) : Host.Outcome State Fault Refusal :=
  s.operate fun s => s.forwardWrite .psg 0 d

/-- `IOR 0x0C`: any byte (41_dispatcher.md R105). -/
def execIorPsg (s : State) : Host.Outcome State Fault Refusal :=
  s.operate fun s => s.answerExt .port0CRead

/-- `IOW a, d`, a in 0x14, 0x15: both reach the one speech data register (41_dispatcher.md R106). -/
def execIowSpkdata (_mirror : BitVec 1) (d : Byte) (s : State) : Host.Outcome State Fault Refusal :=
  s.operate fun s => s.forwardWrite .speech 0 d

/-- `IOR a`, a in 0x14, 0x15: any byte (41_dispatcher.md R107). -/
def execIorSpkdata (_mirror : BitVec 1) (s : State) : Host.Outcome State Fault Refusal :=
  s.operate fun s => s.answerExt .speechPortRead

/-- `IOW a, d`, a in 0x20..0x3F (41_dispatcher.md R108). -/
def execIowExp (off : BitVec 5) (d : Byte) (s : State) : Host.Outcome State Fault Refusal :=
  s.operate fun s => s.forwardWrite .exp (regOffset off) d

/-- `IOR a`, a in 0x20..0x3F (41_dispatcher.md R109). -/
def execIorExp (off : BitVec 5) (s : State) : Host.Outcome State Fault Refusal :=
  s.operate fun s => s.forwardRead .exp (regOffset off)

end Sys2Proof.Machine
end

