-- ==== Sys2Proof/Machine/Interrupt.lean ====
section
/-! DEFINITION. The meanings of 40_interrupt.md: the latch, the enable/select pair and the arbiter. -/

namespace Sys2Proof.Machine

/-- `EDGE VIDEO, l` (40_interrupt.md R79). -/
def execEdgeVideo (l : Bool) (s : State) : Host.Outcome State Fault Refusal :=
  s.operate fun s => (s.mapBlock (Block.signalEdge s.params .video l)).answer none

/-- `EDGE SPEECH, l` (40_interrupt.md R80). -/
def execEdgeSpeech (l : Bool) (s : State) : Host.Outcome State Fault Refusal :=
  s.operate fun s => (s.mapBlock (Block.signalEdge s.params .speech l)).answer none

/-- `EDGE BUSY, l`: not wired, no effect on the block (40_interrupt.md R86). -/
def execEdgeBusy (_l : Bool) (s : State) : Host.Outcome State Fault Refusal :=
  s.operate fun s => s.answer none

/-- `IOW P_INT_ENABLE, d`, writeEnable (40_interrupt.md R81). -/
def execIowIntEnable (d : Byte) (s : State) : Host.Outcome State Fault Refusal :=
  s.operate fun s => (s.mapBlock (Block.writeEnable d)).answer none

/-- `IOW P_INT_SELECT, d`, writeSelect (40_interrupt.md R82). -/
def execIowIntSelect (d : Byte) (s : State) : Host.Outcome State Fault Refusal :=
  s.operate fun s => (s.mapBlock (Block.writeSelect d)).answer none

/-- `IOR P_INT_ENABLE`: any byte (40_interrupt.md R83). -/
def execIorIntEnable (s : State) : Host.Outcome State Fault Refusal :=
  s.operate fun s => s.answerExt .intEnableRead

/-- `IOR P_INT_SELECT`: any byte (40_interrupt.md R85). -/
def execIorIntSelect (s : State) : Host.Outcome State Fault Refusal :=
  s.operate fun s => s.answerExt .intSelectRead

/-- `INTA`, acknowledge; the fatal case takes the exception and returns no vector (40_interrupt.md R84, 60_exceptions.md R133). -/
def execInta (s : State) : Host.Outcome State Fault Refusal :=
  s.operate fun s => (s.mapBlock fun b => (b.acknowledge s.params).1).answer (s.blk.acknowledge s.params).2

end Sys2Proof.Machine
end

