-- ==== Sys2Proof/Machine/Parallel.lean ====
section
/-! DEFINITION. The meanings of the parallel-interface callbacks other than port B (41_dispatcher.md §6). -/

namespace Sys2Proof.Machine

/-- `PAIN`: the port-A input byte is an external value (41_dispatcher.md R113). -/
def execPain (s : State) : Host.Outcome State Fault Refusal :=
  s.operate fun s => s.answerExt .portA

/-- `PCIN`: the fixed idle value (41_dispatcher.md R114). -/
def execPcin (s : State) : Host.Outcome State Fault Refusal :=
  s.operate fun s => s.answer (some Config.portCIn)

/-- `PCOUT d`: logged only (41_dispatcher.md R115). -/
def execPcout (d : Byte) (s : State) : Host.Outcome State Fault Refusal :=
  s.operate fun s => (s.act (.logPortC d)).answer none

end Sys2Proof.Machine
end

