-- ==== Sys2Proof/Machine/Touchpad.lean ====
section
/-! DEFINITION. The meanings of the touchpad scanner (42_touchpad.md), the port-B sample among them. -/

namespace Sys2Proof.Machine

/-- `IOW P_TP_ROWSEL, d` (42_touchpad.md R116). -/
def execIowTpRowsel (d : Byte) (s : State) : Host.Outcome State Fault Refusal :=
  s.operate fun s => (s.mapBlock (Block.latchTp .rowsel d)).answer none

/-- `IOW P_TP_MODE, d` (42_touchpad.md R117). -/
def execIowTpMode (d : Byte) (s : State) : Host.Outcome State Fault Refusal :=
  s.operate fun s => (s.mapBlock (Block.latchTp .mode d)).answer none

/-- `IOW P_TP_UNUSED, d` (42_touchpad.md R118). -/
def execIowTpUnused (d : Byte) (s : State) : Host.Outcome State Fault Refusal :=
  s.operate fun s => (s.mapBlock (Block.latchTp .unused d)).answer none

/-- `ROW r, c` (42_touchpad.md R120). -/
def execRow (r : Fin 20) (c : Row) (s : State) : Host.Outcome State Fault Refusal :=
  s.operate fun s => (s.mapBlock (Block.setRow r c)).answer none

/-- `IOR P_TP_COORD`, readCoordinate (42_touchpad.md R122). -/
def execIorTpCoord (s : State) : Host.Outcome State Fault Refusal :=
  s.operate fun s => s.answer (some (s.blk.readCoordinate s.params))

/-- `IOR a`, a a control port other than the coordinate port: any byte (42_touchpad.md R123). -/
def execIorTpCtrl (_r : TpReg) (s : State) : Host.Outcome State Fault Refusal :=
  s.operate fun s => s.answerExt .tpCtrlRead

/-- `PBIN`: the port-B sample, with the scan inside it while scanning is enabled (42_touchpad.md R125). -/
def execPbin (s : State) : Host.Outcome State Fault Refusal :=
  s.operate fun s =>
    let sample := s.blk.samplePortB s.params (Config.ext .tapeBits s.io.tick)
    ((s.mapBlock fun _ => sample.1).answer (some sample.2)).advance

end Sys2Proof.Machine
end

