-- ==== Sys2Proof/Machine/Unmapped.lean ====
section
/-! DEFINITION. The meanings of the unidentified and the unmapped ports (41_dispatcher.md §5): an unidentified write is accepted with no
effect (R110), an unmapped read returns the idle value (R111), an unmapped write is discarded (R112). -/

namespace Sys2Proof.Machine

/-- `IOW 0x0A, d` (41_dispatcher.md R110). -/
def execIowUnid0A (_d : Byte) (s : State) : Host.Outcome State Fault Refusal :=
  s.operate fun s => s.answer none

/-- `IOW a, d`, a in 0x0E, 0x0F (41_dispatcher.md R110). -/
def execIowUnid0E0F (_off : BitVec 1) (_d : Byte) (s : State) : Host.Outcome State Fault Refusal :=
  s.operate fun s => s.answer none

/-- `IOW 0x1F, d` (41_dispatcher.md R110). -/
def execIowUnid1F (_d : Byte) (s : State) : Host.Outcome State Fault Refusal :=
  s.operate fun s => s.answer none

/-- `IOR 0x0A` (41_dispatcher.md R111). -/
def execIorUnmapped0A (s : State) : Host.Outcome State Fault Refusal :=
  s.operate fun s => s.answer (some Config.idle)

/-- `IOR a`, a in 0x0E, 0x0F (41_dispatcher.md R111). -/
def execIorUnmapped0E0F (_off : BitVec 1) (s : State) : Host.Outcome State Fault Refusal :=
  s.operate fun s => s.answer (some Config.idle)

/-- `IOR 0x1F` (41_dispatcher.md R111). -/
def execIorUnmapped1F (s : State) : Host.Outcome State Fault Refusal :=
  s.operate fun s => s.answer (some Config.idle)

/-- `IOR a`, a in 0x40..0x7F (41_dispatcher.md R111). -/
def execIorUnmapped407F (_off : BitVec 6) (s : State) : Host.Outcome State Fault Refusal :=
  s.operate fun s => s.answer (some Config.idle)

/-- `IOR a`, a in 0x80..0xFF (41_dispatcher.md R111). -/
def execIorUnmapped80FF (_off : BitVec 7) (s : State) : Host.Outcome State Fault Refusal :=
  s.operate fun s => s.answer (some Config.idle)

/-- `IOR a`, a in `FREE` and taken by no read handler (41_dispatcher.md R111). -/
def execIorUnmappedFree (_a : Port) (s : State) : Host.Outcome State Fault Refusal :=
  s.operate fun s => s.answer (some Config.idle)

/-- `IOW a, d`, a in 0x40..0x7F (41_dispatcher.md R112). -/
def execIowUnmapped407F (_off : BitVec 6) (_d : Byte) (s : State) : Host.Outcome State Fault Refusal :=
  s.operate fun s => s.answer none

/-- `IOW a, d`, a in 0x80..0xFF (41_dispatcher.md R112). -/
def execIowUnmapped80FF (_off : BitVec 7) (_d : Byte) (s : State) : Host.Outcome State Fault Refusal :=
  s.operate fun s => s.answer none

/-- `IOW a, d`, a in `FREE` and taken by no write handler (41_dispatcher.md R112). -/
def execIowUnmappedFree (_a : Port) (_d : Byte) (s : State) : Host.Outcome State Fault Refusal :=
  s.operate fun s => s.answer none

end Sys2Proof.Machine
end

