-- ==== Sys2Proof/Machine/Dispatch.lean ====
section
/-! DEFINITION. The dispatch: one arm per operation, each a direct call of its meaning. -/

namespace Sys2Proof.Machine

/-- The meaning of an operation in a state. -/
def exec (i : Instr) (s : State) : Host.Outcome State Fault Refusal :=
  match i with
  | .iorVdp off => Sys2Proof.Machine.execIorVdp off s
  | .iowVdp off d => Sys2Proof.Machine.execIowVdp off d s
  | .iorPpi off => Sys2Proof.Machine.execIorPpi off s
  | .iowPpi off d => Sys2Proof.Machine.execIowPpi off d s
  | .iorSio off => Sys2Proof.Machine.execIorSio off s
  | .iowSio off d => Sys2Proof.Machine.execIowSio off d s
  | .iorUnmapped0A => Sys2Proof.Machine.execIorUnmapped0A s
  | .iowUnid0A d => Sys2Proof.Machine.execIowUnid0A d s
  | .iorSpkctl => Sys2Proof.Machine.execIorSpkctl s
  | .iowSpkctl d => Sys2Proof.Machine.execIowSpkctl d s
  | .iorPsg => Sys2Proof.Machine.execIorPsg s
  | .iowPsg d => Sys2Proof.Machine.execIowPsg d s
  | .iorUnmapped0E0F off => Sys2Proof.Machine.execIorUnmapped0E0F off s
  | .iowUnid0E0F off d => Sys2Proof.Machine.execIowUnid0E0F off d s
  | .iorSpkdata mirror => Sys2Proof.Machine.execIorSpkdata mirror s
  | .iowSpkdata mirror d => Sys2Proof.Machine.execIowSpkdata mirror d s
  | .iorUnmapped1F => Sys2Proof.Machine.execIorUnmapped1F s
  | .iowUnid1F d => Sys2Proof.Machine.execIowUnid1F d s
  | .iorExp off => Sys2Proof.Machine.execIorExp off s
  | .iowExp off d => Sys2Proof.Machine.execIowExp off d s
  | .iorUnmapped407F off => Sys2Proof.Machine.execIorUnmapped407F off s
  | .iorUnmapped80FF off => Sys2Proof.Machine.execIorUnmapped80FF off s
  | .iowUnmapped407F off d => Sys2Proof.Machine.execIowUnmapped407F off d s
  | .iowUnmapped80FF off d => Sys2Proof.Machine.execIowUnmapped80FF off d s
  | .iowIntEnable d => Sys2Proof.Machine.execIowIntEnable d s
  | .iorIntEnable => Sys2Proof.Machine.execIorIntEnable s
  | .iowIntSelect d => Sys2Proof.Machine.execIowIntSelect d s
  | .iorIntSelect => Sys2Proof.Machine.execIorIntSelect s
  | .iowTpRowsel d => Sys2Proof.Machine.execIowTpRowsel d s
  | .iowTpMode d => Sys2Proof.Machine.execIowTpMode d s
  | .iowTpUnused d => Sys2Proof.Machine.execIowTpUnused d s
  | .iorTpCoord => Sys2Proof.Machine.execIorTpCoord s
  | .iorTpCtrl r => Sys2Proof.Machine.execIorTpCtrl r s
  | .iorUnmappedFree a => Sys2Proof.Machine.execIorUnmappedFree a s
  | .iowUnmappedFree a d => Sys2Proof.Machine.execIowUnmappedFree a d s
  | .edgeVideo l => Sys2Proof.Machine.execEdgeVideo l s
  | .edgeSpeech l => Sys2Proof.Machine.execEdgeSpeech l s
  | .edgeBusy l => Sys2Proof.Machine.execEdgeBusy l s
  | .inta => Sys2Proof.Machine.execInta s
  | .row r c => Sys2Proof.Machine.execRow r c s
  | .pbin => Sys2Proof.Machine.execPbin s
  | .pain => Sys2Proof.Machine.execPain s
  | .pcin => Sys2Proof.Machine.execPcin s
  | .pcout d => Sys2Proof.Machine.execPcout d s

end Sys2Proof.Machine
end

