-- ==== Sys2Proof/Machine/Step.lean ====
section
/-! DEFINITION. One step: take the next presented word, decode it, perform the operation (00_scope.md R4, R11). -/

namespace Sys2Proof.Machine

/-- One step. A faulted block has none (60_exceptions.md R134). With nothing presented the block does nothing (10_state.md R21).
A word that spells no operation is refused (30_encoding.md R71). -/
def step (s : State) : Host.Outcome State Fault Refusal :=
  match s.blk.fault with
  | some r => .fault (.fatalAck r)
  | none =>
    match s.fetch with
    | none => .next s
    | some (w, s') =>
      match decode s.params w with
      | .ok i => exec i s'
      | .error e => .refused (.invalidWord e)

/-- Present an instruction of `nbits` bits to the next step (log entry 3). DESIGN CHOICE, log entry 14: the spec has only 32-bit words
(30_encoding.md R61, R75) and does not say how a longer number is presented. A number that needs more than 32 bits is cut to its low 32 bits and the next step
performs that word, although `decodeTableWord` answers that the number spells no operation. A number of a stated length under 32 bits is presented as the 32-bit
word whose upper bits are 0, as `decodeTableWord` reads it. -/
def State.withFetchWord (s : State) (nbits w : Nat) : State := s.present (BitVec.ofNat 32 (w % 2 ^ nbits))

end Sys2Proof.Machine
end

