-- ==== Sys2Proof/Safety.lean ====
section
/-! DEFINITION. The terms in which claims speak of safe states and runs. -/

namespace Sys2Proof.Machine

/-- The block has not taken the fatal acknowledge (10_state.md R34). A run is safe while its states run: a run that reaches the
faulted state refutes any claim of correct behaviour (60_exceptions.md R134). -/
abbrev State.running (s : State) : Prop := s.blk.fault = none

/-- The line is exact: asserted if and only if a pending bit is enabled (10_state.md R27). -/
abbrev Block.lineExact (b : Block) : Prop := b.irq = lineLevel b.pending b.enabled

/-- Only bits of wired sources are pending (40_interrupt.md R92). -/
abbrev Block.onlyWiredPending (p : Params) (b : Block) : Prop :=
  ∀ i : Fin 8, bitAt b.pending i = true → i = Source.video.bit p ∨ i = Source.speech.bit p

/-- A fault record holds the masks as they stand, and no source was active (60_exceptions.md R133, 40_interrupt.md R92). -/
def Block.faultExact (b : Block) : Bool :=
  match b.fault with
  | none => true
  | some r => r.kind == .noneActive && r.pending == b.pending && r.enabled == b.enabled && r.pending &&& r.enabled == 0#8

/-- What every reachable state satisfies of its interrupt part. -/
abbrev State.coherent (s : State) : Prop :=
  s.blk.lineExact ∧ s.blk.onlyWiredPending s.params ∧ s.blk.faultExact = true

/-- Both coordinate latches hold values of the lookup tables, as they do once a scan has succeeded (42_touchpad.md R129). -/
abbrev State.sampledFromTables (s : State) : Prop :=
  (∃ c : Fin 24, s.blk.sampledX = s.params.xtab[c]) ∧ ∃ r : Fin 20, s.blk.sampledY = s.params.ytab[r]

/-- `k` steps one after another, stopping at the first fault or refusal. -/
def run : Nat → State → Host.Outcome State Fault Refusal
  | 0, s => .next s
  | k + 1, s =>
    match step s with
    | .next s' => run k s'
    | .fault r => .fault r
    | .refused r => .refused r

/-- The operation that the next step performs, if a word is presented and spells one. -/
def State.nextOperation (s : State) : Option Instr :=
  match s.fetch with
  | some (w, _) => (decode s.params w).toOption
  | none => none

/-- The part of the block that belongs to the latch, the enable/select pair and the arbiter (10_state.md R22). -/
structure InterruptPart where
  pending : Byte
  enabled : Byte
  vector : Byte
  prevVideo : Bool
  prevSpeech : Bool
  irq : Bool
  fault : Option FatalAck
deriving DecidableEq, Repr

/-- The interrupt part of a block. -/
def Block.interruptPart (b : Block) : InterruptPart where
  pending := b.pending
  enabled := b.enabled
  vector := b.vector
  prevVideo := b.prevVideo
  prevSpeech := b.prevSpeech
  irq := b.irq
  fault := b.fault

/-- The part of the block that belongs to the touchpad (10_state.md R22). -/
structure TouchpadPart where
  tpRowsel : Byte
  tpMode : Byte
  tpUnused : Byte
  sampledX : Byte
  sampledY : Byte
  row : Vector Row 20
deriving DecidableEq, Repr

/-- The touchpad part of a block. -/
def Block.touchpadPart (b : Block) : TouchpadPart where
  tpRowsel := b.tpRowsel
  tpMode := b.tpMode
  tpUnused := b.tpUnused
  sampledX := b.sampledX
  sampledY := b.sampledY
  row := b.row

end Sys2Proof.Machine
end

