-- ==== Sys2Proof/Certificates/Slice0/Obligations.lean ====
section
/-! DEFINITION. The statements for the provers. `s.running` says that the block has not faulted. A statement about one operation says first that the
words the spec gives it decode to it, then what performing it answers: the whole next state, so that every field not named is unchanged. -/

open Sys2Proof Sys2Proof.Machine

/-! ## Encoding -/

/-- Every well-formed operation, with every operand at every value, is read back from its word (30_encoding.md R61 to R73, on decision
D1). -/
def Obligations.DecodeReadsBackEveryEncoding : Prop :=
  ∀ (c : Instantiation) (i : Instr), i.wellFormed c.params = true → decode c.params (encode c.params i) = .ok i

/-- A word that decodes is exactly the word of a well-formed operation: no bit of it is dropped (30_encoding.md R71, on decision D1). -/
def Obligations.DecodedWordIsTheEncoding : Prop :=
  ∀ (c : Instantiation) (w : Word) (i : Instr), decode c.params w = .ok i →
    i.wellFormed c.params = true ∧ encode c.params i = w

/-- The encoder gives the numbers of the written notation (30_encoding.md R76, which rests on decision D1). -/
def Obligations.EncoderFollowsTheNotation : Prop :=
  (∀ a : Port, iorWord a = spellIor a) ∧
  (∀ (a : Port) (d : Byte), iowWord a d = spellIow a d) ∧
  (∀ (p : Params) (l : Bool), encode p (.edgeVideo l) = spellEdgeVideo l) ∧
  (∀ (p : Params) (l : Bool), encode p (.edgeSpeech l) = spellEdgeSpeech l) ∧
  (∀ (p : Params) (l : Bool), encode p (.edgeBusy l) = spellEdgeBusy l) ∧
  (∀ p : Params, encode p .inta = spellInta) ∧
  (∀ (p : Params) (r : Fin 20) (c : Row), encode p (.row r c) = spellRow r c) ∧
  (∀ p : Params, encode p .pbin = spellPbin) ∧
  (∀ p : Params, encode p .pain = spellPain) ∧
  (∀ p : Params, encode p .pcin = spellPcin) ∧
  (∀ (p : Params) (d : Byte), encode p (.pcout d) = spellPcout d)

/-- A word spells no operation exactly when a reserved bit of its class's format is set, its `SRC` is 0b11 or its `R` is 20..31
(30_encoding.md R63 to R71, on decision D1). -/
def Obligations.RefusedWordsAreTheReservedOnes : Prop :=
  ∀ (c : Instantiation) (w : Word), (∃ e, decode c.params w = .error e) ↔
    (w.extractLsb' 29 3 = 0b000#3 ∧ (w.extractLsb' 16 13 ≠ 0#13 ∨ w.extractLsb' 0 8 ≠ 0#8)) ∨
    (w.extractLsb' 29 3 = 0b001#3 ∧ w.extractLsb' 16 13 ≠ 0#13) ∨
    (w.extractLsb' 29 3 = 0b010#3 ∧
      (w.extractLsb' 10 19 ≠ 0#19 ∨ w.extractLsb' 1 7 ≠ 0#7 ∨ w.extractLsb' 8 2 = 0b11#2)) ∨
    (w.extractLsb' 29 3 = 0b011#3 ∧ w.extractLsb' 0 29 ≠ 0#29) ∨
    (w.extractLsb' 29 3 = 0b100#3 ∧ 20 ≤ (w.extractLsb' 24 5).toNat) ∨
    (w.extractLsb' 29 3 = 0b101#3 ∧ w.extractLsb' 0 29 ≠ 0#29) ∨
    (w.extractLsb' 29 3 = 0b110#3 ∧ w.extractLsb' 0 29 ≠ 0#29) ∨
    (w.extractLsb' 29 3 = 0b111#3 ∧
      (w.extractLsb' 9 20 ≠ 0#20 ∨ (w.getLsbD 8 = false ∧ w.extractLsb' 0 8 ≠ 0#8)))

/-- The words of 95_test_vectors.md 2.1 decode as its table says, whatever the OPEN parameters are. -/
def Obligations.SampleWordsDecode : Prop :=
  ∀ c : Instantiation,
    decode c.params 0x00001F00#32 = .ok .iorUnmapped1F ∧
    decode c.params 0x00001F01#32 = .error .reservedBits ∧
    decode c.params 0x20000C9F#32 = .ok (.iowPsg 0x9F) ∧
    decode c.params 0x20010C9F#32 = .error .reservedBits ∧
    decode c.params 0x40000001#32 = .ok (.edgeVideo true) ∧
    decode c.params 0x40000101#32 = .ok (.edgeSpeech true) ∧
    decode c.params 0x40000200#32 = .ok (.edgeBusy false) ∧
    decode c.params 0x40000301#32 = .error .reservedSource ∧
    decode c.params 0x60000000#32 = .ok .inta ∧
    decode c.params 0x93800000#32 = .ok (.row 19 0x800000) ∧
    decode c.params 0x94000001#32 = .error .reservedRow ∧
    decode c.params 0xA0000000#32 = .ok .pbin ∧
    decode c.params 0xC0000000#32 = .ok .pain ∧
    decode c.params 0xE0000000#32 = .ok .pcin ∧
    decode c.params 0xE0000001#32 = .error .reservedBits ∧
    decode c.params 0xE00001FF#32 = .ok (.pcout 0xFF)

/-! ## The step -/

/-- A step performs the operation that the next presented word spells, on the state with that word taken (log entry 3). -/
def Obligations.StepPerformsTheDecodedOperation : Prop :=
  ∀ (s : State) (w : Word) (rest : List Word) (i : Instr),
    s.running → s.io.inbox = w :: rest → decode s.params w = .ok i →
    step s = exec i { s with io := { s.io with inbox := rest } }

/-- A presented word that spells no operation is refused, whatever made it invalid (30_encoding.md R71, on decision D1). That words are presented in a list and
a step takes the first is the model's choice, log entry 3; that the refusal names the decoder's reason is log entry 7. -/
def Obligations.StepRefusesAnInvalidWord : Prop :=
  ∀ (s : State) (w : Word) (rest : List Word) (e : DecodeError),
    s.running → s.io.inbox = w :: rest → decode s.params w = .error e → step s = .refused (.invalidWord e)

/-- With no operation presented a running block does nothing. The idle step is the model's choice, log entry 3. -/
def Obligations.IdleStepChangesNothing : Prop :=
  ∀ s : State, s.running → s.io.inbox = [] → step s = .next s

/-- After the fatal acknowledge no operation has a step: every operation and every step answers the fault with the stored record
(60_exceptions.md R134, decision D20; log entry 6). -/
def Obligations.FaultedBlockHasNoStep : Prop :=
  ∀ (s : State) (r : FatalAck), s.blk.fault = some r →
    (∀ i : Instr, exec i s = .fault (.fatalAck r)) ∧ step s = .fault (.fatalAck r)

/-! ## Interrupt latch, masks, arbiter -/

/-- `EDGE VIDEO, l` (40_interrupt.md R79; the scope of a callback and its last step rest on decision D9). -/
def Obligations.VideoEdgeLatchesOnRise : Prop :=
  ∀ (s : State) (l : Bool), s.running →
    let pending := if l = true ∧ s.blk.prevVideo = false then s.blk.pending ||| 0x01#8 else s.blk.pending
    decode s.params (spellEdgeVideo l) = .ok (.edgeVideo l) ∧
    exec (.edgeVideo l) s = .next
      { s with
        blk := { s.blk with pending := pending, prevVideo := l, irq := pending &&& s.blk.enabled != 0#8 }
        io := { s.io with result := none } }

/-- `EDGE SPEECH, l` (40_interrupt.md R80; as above, decision D9). -/
def Obligations.SpeechEdgeLatchesOnRise : Prop :=
  ∀ (s : State) (l : Bool), s.running →
    let pending := if l = true ∧ s.blk.prevSpeech = false then s.blk.pending ||| (1#8 <<< s.params.speechBit.val)
      else s.blk.pending
    decode s.params (spellEdgeSpeech l) = .ok (.edgeSpeech l) ∧
    exec (.edgeSpeech l) s = .next
      { s with
        blk := { s.blk with pending := pending, prevSpeech := l, irq := pending &&& s.blk.enabled != 0#8 }
        io := { s.io with result := none } }

/-- `EDGE BUSY, l` has no effect on the block (40_interrupt.md R86). -/
def Obligations.BusyEdgeIsNotWired : Prop :=
  ∀ (s : State) (l : Bool), s.running →
    decode s.params (spellEdgeBusy l) = .ok (.edgeBusy l) ∧
    exec (.edgeBusy l) s = .next { s with io := { s.io with result := none } }

/-- writeEnable replaces the whole mask and recomputes the line (40_interrupt.md R81). -/
def Obligations.WriteEnableReplacesTheMask : Prop :=
  ∀ (s : State) (d : Byte), s.running →
    decode s.params (spellIow s.params.pIntEnable d) = .ok (.iowIntEnable d) ∧
    exec (.iowIntEnable d) s = .next
      { s with
        blk := { s.blk with enabled := d, irq := s.blk.pending &&& d != 0#8 }
        io := { s.io with result := none } }

/-- writeSelect sets or clears the bit that `d[3:1]` names and recomputes the line; `d[7:4]` are ignored (40_interrupt.md R82). -/
def Obligations.WriteSelectChangesOneBit : Prop :=
  ∀ (s : State) (d : Byte), s.running →
    let pin := ((d >>> 1) &&& 0x7#8).toNat
    let enabled := if d &&& 0x1#8 = 0x1#8 then s.blk.enabled ||| (1#8 <<< pin) else s.blk.enabled &&& ~~~(1#8 <<< pin)
    decode s.params (spellIow s.params.pIntSelect d) = .ok (.iowIntSelect d) ∧
    exec (.iowIntSelect d) s = .next
      { s with
        blk := { s.blk with enabled := enabled, irq := s.blk.pending &&& enabled != 0#8 }
        io := { s.io with result := none } } ∧
    exec (.iowIntSelect (d &&& 0x0F#8)) s = exec (.iowIntSelect d) s

/-- Reads of the two interrupt ports return an environment's byte and change nothing in the block (40_interrupt.md R83, R85, decision D8). The byte
is a free value. -/
def Obligations.InterruptPortReadsAreExternal : Prop :=
  ∀ s : State, s.running →
    (decode s.params (spellIor s.params.pIntEnable) = .ok .iorIntEnable ∧
      exec .iorIntEnable s = .next
        { s with io := { s.io with result := some (Config.ext .intEnableRead s.io.tick), tick := s.io.tick + 1 } }) ∧
    (decode s.params (spellIor s.params.pIntSelect) = .ok .iorIntSelect ∧
      exec .iorIntSelect s = .next
        { s with io := { s.io with result := some (Config.ext .intSelectRead s.io.tick), tick := s.io.tick + 1 } })

/-- The acknowledge: video first, then speech, each clearing its own pending bit and returning its vector; with neither active it is fatal
(40_interrupt.md R84). The fatal clause rests on 60_exceptions.md R133 and its decision D20 (the record and its two sub-cases), and that it is a next state in
which line and vector stay as they were is DEDUCED, log entry 6. -/
def Obligations.AcknowledgeServesOrIsFatal : Prop :=
  ∀ s : State, s.running →
    let act := s.blk.pending &&& s.blk.enabled
    let noVideo := s.blk.pending &&& ~~~0x01#8
    let noSpeech := s.blk.pending &&& ~~~(1#8 <<< s.params.speechBit.val)
    decode s.params 0x60000000#32 = .ok .inta ∧
    (act.getLsbD 0 = true →
      exec .inta s = .next
        { s with
          blk := { s.blk with pending := noVideo, vector := 0xF8#8, irq := noVideo &&& s.blk.enabled != 0#8 }
          io := { s.io with result := some 0xF8#8 } }) ∧
    (act.getLsbD 0 = false → act.getLsbD s.params.speechBit.val = true →
      exec .inta s = .next
        { s with
          blk := { s.blk with pending := noSpeech, vector := 0xFB#8, irq := noSpeech &&& s.blk.enabled != 0#8 }
          io := { s.io with result := some 0xFB#8 } }) ∧
    (act.getLsbD 0 = false → act.getLsbD s.params.speechBit.val = false →
      exec .inta s = .next
        { s with
          blk := { s.blk with
            fault := some { kind := if act = 0#8 then .noneActive else .foreignActive,
                            pending := s.blk.pending, enabled := s.blk.enabled } }
          io := { s.io with result := none } })

/-- With both sources pending and enabled, two acknowledges in a row return 0xF8 and then 0xFB (40_interrupt.md R90). The words are presented as log entry 3
says. -/
def Obligations.VideoIsServedBeforeSpeech : Prop :=
  ∀ (s : State) (rest : List Word), s.running → s.io.inbox = 0x60000000#32 :: 0x60000000#32 :: rest →
    bitAt (s.blk.pending &&& s.blk.enabled) 0 = true →
    bitAt (s.blk.pending &&& s.blk.enabled) s.params.speechBit = true →
    (∃ t, run 1 s = .next t ∧ t.io.result = some 0xF8#8) ∧
    (∃ t, run 2 s = .next t ∧ t.io.result = some 0xFB#8 ∧
      bitAt t.blk.pending 0 = false ∧ bitAt t.blk.pending s.params.speechBit = false)

/-- In a coherent state the line says whether an acknowledge is safe: asserted, it returns one of the two vectors; not asserted, it is the
fatal case with no source active (70_reset_and_hazards.md R159, 60_exceptions.md R133). The record and its sub-case NoneActive are the spec's own decision
D20; that the fatal INTA answers a next state holding the record is DEDUCED, log entry 6. -/
def Obligations.LineSaysWhetherAcknowledgeIsSafe : Prop :=
  ∀ s : State, s.coherent → s.running →
    (s.blk.irq = true → ∃ t, exec .inta s = .next t ∧ t.running ∧
      (t.io.result = some 0xF8#8 ∨ t.io.result = some 0xFB#8)) ∧
    (s.blk.irq = false → ∃ t, exec .inta s = .next t ∧ t.io.result = none ∧
      t.blk.fault = some { kind := .noneActive, pending := s.blk.pending, enabled := s.blk.enabled })

/-- Enabling a source whose bit is already pending raises the line in the same write, through either port (40_interrupt.md R88). Disabling it, through either
port, keeps every request: the pending mask stays, the line falls if no other pending source is left enabled, and enabling the source again raises
the line without a new edge (70_reset_and_hazards.md R157). -/
def Obligations.EnablingAPendingSourceRaisesTheLine : Prop :=
  ∀ (s : State) (pin : Fin 8), s.running → bitAt s.blk.pending pin = true →
    (∀ d : Byte, bitAt d pin = true → ∃ t, exec (.iowIntEnable d) s = .next t ∧ t.blk.irq = true) ∧
    (∃ t, exec (pseudoSeten pin) s = .next t ∧ t.blk.irq = true) ∧
    (∀ d : Byte, bitAt d pin = false →
      ∃ t u, exec (.iowIntEnable d) s = .next t ∧ bitAt t.blk.enabled pin = false ∧ t.blk.pending = s.blk.pending ∧
        ((∀ i : Fin 8, bitAt s.blk.pending i = true → bitAt d i = false) → t.blk.irq = false) ∧
        exec (pseudoSeten pin) t = .next u ∧ u.blk.irq = true) ∧
    (∃ t u, exec (pseudoClren pin) s = .next t ∧ bitAt t.blk.enabled pin = false ∧ t.blk.pending = s.blk.pending ∧
      ((∀ i : Fin 8, i ≠ pin → bitAt s.blk.pending i = true → bitAt s.blk.enabled i = false) → t.blk.irq = false) ∧
      exec (pseudoSeten pin) t = .next u ∧ u.blk.irq = true)

/-- The eight bit writes for a mask, presented in any order, leave the block as one writeEnable of that mask does (40_interrupt.md R89).
The words are presented as log entry 3 says. -/
def Obligations.EightSelectsInAnyOrderEqualOneEnable : Prop :=
  ∀ (s : State) (m : Byte) (order : List (Fin 8)) (rest : List Word), s.running →
    order.Perm (List.finRange 8) →
    s.io.inbox = order.map (fun q =>
      spellIow s.params.pIntSelect (BitVec.ofNat 8 (2 * q.val) ||| if bitAt m q then 0x01#8 else 0x00#8)) ++ rest →
    ∃ t, run 8 s = .next t ∧ t.io.inbox = rest ∧
      t.blk = { s.blk with enabled := m, irq := s.blk.pending &&& m != 0#8 }

/-- Changing enable bits that do not meet the pending mask never changes the line, whether a writeEnable changes any number of them or a writeSelect one
(40_interrupt.md R89). -/
def Obligations.EnablesOutsidePendingLeaveTheLine : Prop :=
  ∀ s : State, s.running → s.blk.lineExact →
    (∀ d : Byte, (∀ i : Fin 8, bitAt s.blk.pending i = true → bitAt d i = bitAt s.blk.enabled i) →
      ∃ t, exec (.iowIntEnable d) s = .next t ∧ t.blk.enabled = d ∧ t.blk.irq = s.blk.irq) ∧
    (∀ d : Byte, s.blk.pending.getLsbD ((d >>> 1) &&& 0x7#8).toNat = false →
      ∃ t, exec (.iowIntSelect d) s = .next t ∧ t.blk.enabled.getLsbD ((d >>> 1) &&& 0x7#8).toNat = d.getLsbD 0 ∧
        t.blk.irq = s.blk.irq)

/-- The interrupt invariant: the line is exact, only wired sources are pending, and a fault record holds the masks with no source active. Every step
keeps it (10_state.md R27, 40_interrupt.md R92). The clause on the fault record rests on 60_exceptions.md R133 with its decision D20, and on log entry 6: the
recording is a next state, DEDUCED. -/
def Obligations.EveryStepKeepsTheLineExact : Prop :=
  ∀ s t : State, s.coherent → step s = .next t → t.coherent

/-- The interrupt invariant holds at reset, for every instantiation. -/
def Obligations.ResetIsCoherent : Prop :=
  ∀ c : Instantiation, State.coherent { State.reset with inst := c }

/-- A pending bit survives every run in which no acknowledge is performed: edges at any level, mask writes and every other operation
(40_interrupt.md R87). The words are presented as log entry 3 says. -/
def Obligations.PendingIsStickyAlongRuns : Prop :=
  ∀ (k : Nat) (s t : State) (src : Source),
    (∀ w ∈ s.io.inbox.take k, decode s.params w ≠ .ok .inta) →
    run k s = .next t →
    bitAt s.blk.pending (src.bit s.params) = true → bitAt t.blk.pending (src.bit s.params) = true

/-- A step clears a source's pending bit only by an acknowledge that returns that source's vector (10_state.md R23, 60_exceptions.md R135). -/
def Obligations.OnlyItsAcknowledgeClearsAPendingBit : Prop :=
  ∀ (s t : State) (src : Source), step s = .next t →
    bitAt s.blk.pending (src.bit s.params) = true → bitAt t.blk.pending (src.bit s.params) = false →
    s.nextOperation = some .inta ∧ t.io.result = some src.vector ∧ t.blk.vector = src.vector

/-- A step sets a pending bit only where it is a wired source's own and its callback brought a rising edge (10_state.md R23, 60_exceptions.md R135). -/
def Obligations.OnlyARisingEdgeSetsAPendingBit : Prop :=
  ∀ (s t : State) (i : Fin 8), step s = .next t →
    bitAt s.blk.pending i = false → bitAt t.blk.pending i = true →
    (i = 0 ∧ s.nextOperation = some (.edgeVideo true) ∧ s.blk.prevVideo = false) ∨
    (i = s.params.speechBit ∧ s.nextOperation = some (.edgeSpeech true) ∧ s.blk.prevSpeech = false)

/-! ## The port dispatcher -/

/-- Every port address has a handler for reads and one for writes, and on a running block the access completes: no port access fails or waits
(41_dispatcher.md R93, 20_memory.md R48, 60_exceptions.md R132). -/
def Obligations.EveryPortAccessCompletes : Prop :=
  ∀ (s : State) (a : Port) (d : Byte), s.running →
    (∃ i t, decode s.params (spellIor a) = .ok i ∧ i.opClass = .ior ∧ exec i s = .next t) ∧
    (∃ i t, decode s.params (spellIow a d) = .ok i ∧ i.opClass = .iow ∧ exec i s = .next t)

/-- Video chip window (41_dispatcher.md R96, R97; the offset rests on decision D18). -/
def Obligations.VideoWindowIsForwarded : Prop :=
  ∀ (s : State) (off : BitVec 2) (d : Byte), s.running →
    (decode s.params (spellIor (off.setWidth 8)) = .ok (.iorVdp off) ∧
      exec (.iorVdp off) s = .next
        { s with io := { s.io with
            result := some (Config.fwdRead .vdp (off.setWidth 5) s.io.tick)
            trace := .fwdRead .vdp (off.setWidth 5) :: s.io.trace
            tick := s.io.tick + 1 } }) ∧
    (decode s.params (spellIow (off.setWidth 8) d) = .ok (.iowVdp off d) ∧
      exec (.iowVdp off d) s = .next
        { s with io := { s.io with result := none, trace := .fwdWrite .vdp (off.setWidth 5) d :: s.io.trace } })

/-- Parallel-interface chip window (41_dispatcher.md R98, R99; decisions D15, D18). -/
def Obligations.ParallelWindowIsForwarded : Prop :=
  ∀ (s : State) (off : BitVec 2) (d : Byte), s.running →
    (decode s.params (spellIor (0x04#8 + off.setWidth 8)) = .ok (.iorPpi off) ∧
      exec (.iorPpi off) s = .next
        { s with io := { s.io with
            result := some (Config.fwdRead .ppi (off.setWidth 5) s.io.tick)
            trace := .fwdRead .ppi (off.setWidth 5) :: s.io.trace
            tick := s.io.tick + 1 } }) ∧
    (decode s.params (spellIow (0x04#8 + off.setWidth 8) d) = .ok (.iowPpi off d) ∧
      exec (.iowPpi off d) s = .next
        { s with io := { s.io with result := none, trace := .fwdWrite .ppi (off.setWidth 5) d :: s.io.trace } })

/-- Serial-interface chip window, offset 0 data and 1 status (41_dispatcher.md R100, R101; decision D18). -/
def Obligations.SerialWindowIsForwarded : Prop :=
  ∀ (s : State) (off : BitVec 1) (d : Byte), s.running →
    (decode s.params (spellIor (0x08#8 + off.setWidth 8)) = .ok (.iorSio off) ∧
      exec (.iorSio off) s = .next
        { s with io := { s.io with
            result := some (Config.fwdRead .sio (off.setWidth 5) s.io.tick)
            trace := .fwdRead .sio (off.setWidth 5) :: s.io.trace
            tick := s.io.tick + 1 } }) ∧
    (decode s.params (spellIow (0x08#8 + off.setWidth 8) d) = .ok (.iowSio off d) ∧
      exec (.iowSio off d) s = .next
        { s with io := { s.io with result := none, trace := .fwdWrite .sio (off.setWidth 5) d :: s.io.trace } })

/-- Speech control: the two lines take the two bits and are driven; nothing else of the byte is kept (41_dispatcher.md R102; positions and
polarity rest on decision D17). That the trace holds the mode-select drive before the bank-select drive is DEDUCED from the order of R102's pseudocode, log
entry 4. -/
def Obligations.SpeechControlDrivesTwoLines : Prop :=
  ∀ (s : State) (d : Byte), s.running →
    decode s.params (spellIow 0x0B#8 d) = .ok (.iowSpkctl d) ∧
    exec (.iowSpkctl d) s = .next
      { s with
        blk := { s.blk with spkMd := d.getLsbD s.params.spkMdBit.val, spkBank := d.getLsbD s.params.spkBankBit.val }
        io := { s.io with
          result := none
          trace := .drive .bankSelect (d.getLsbD s.params.spkBankBit.val) ::
            .drive .modeSelect (d.getLsbD s.params.spkMdBit.val) :: s.io.trace } }

/-- Reads of 0x0B, 0x0C, 0x14 and 0x15 return an environment's byte (41_dispatcher.md R103, R105, R107, decision D8). The byte is a free value. -/
def Obligations.WriteOnlyPortReadsAreExternal : Prop :=
  ∀ (s : State) (mirror : BitVec 1), s.running →
    (decode s.params (spellIor 0x0B#8) = .ok .iorSpkctl ∧
      exec .iorSpkctl s = .next
        { s with io := { s.io with result := some (Config.ext .port0BRead s.io.tick), tick := s.io.tick + 1 } }) ∧
    (decode s.params (spellIor 0x0C#8) = .ok .iorPsg ∧
      exec .iorPsg s = .next
        { s with io := { s.io with result := some (Config.ext .port0CRead s.io.tick), tick := s.io.tick + 1 } }) ∧
    (decode s.params (spellIor (0x14#8 + mirror.setWidth 8)) = .ok (.iorSpkdata mirror) ∧
      exec (.iorSpkdata mirror) s = .next
        { s with io := { s.io with result := some (Config.ext .speechPortRead s.io.tick), tick := s.io.tick + 1 } })

/-- A write to 0x0C forwards its byte to the sound chip's one register and changes nothing in the block (41_dispatcher.md R104). -/
def Obligations.SoundWriteForwardsItsByte : Prop :=
  ∀ (s : State) (d : Byte), s.running →
    decode s.params (spellIow 0x0C#8 d) = .ok (.iowPsg d) ∧
    exec (.iowPsg d) s = .next { s with io := { s.io with result := none, trace := .fwdWrite .psg 0 d :: s.io.trace } }

/-- Writes to 0x14 and to its mirror 0x15 forward to the same speech data register (41_dispatcher.md R106). -/
def Obligations.SpeechDataWriteForwardsAtBothPorts : Prop :=
  ∀ (s : State) (mirror : BitVec 1) (d : Byte), s.running →
    decode s.params (spellIow 0x14#8 d) = .ok (.iowSpkdata 0 d) ∧
    decode s.params (spellIow 0x15#8 d) = .ok (.iowSpkdata 1 d) ∧
    exec (.iowSpkdata mirror d) s = .next
      { s with io := { s.io with result := none, trace := .fwdWrite .speech 0 d :: s.io.trace } }

/-- The expansion window passes the low five address bits through (41_dispatcher.md R108, R109; its base rests on decision D3). -/
def Obligations.ExpansionWindowIsForwarded : Prop :=
  ∀ (s : State) (off : BitVec 5) (d : Byte), s.running →
    (decode s.params (spellIor (0x20#8 + off.setWidth 8)) = .ok (.iorExp off) ∧
      exec (.iorExp off) s = .next
        { s with io := { s.io with
            result := some (Config.fwdRead .exp off s.io.tick)
            trace := .fwdRead .exp off :: s.io.trace
            tick := s.io.tick + 1 } }) ∧
    (decode s.params (spellIow (0x20#8 + off.setWidth 8) d) = .ok (.iowExp off d) ∧
      exec (.iowExp off d) s = .next
        { s with io := { s.io with result := none, trace := .fwdWrite .exp off d :: s.io.trace } })

/-- The four unidentified write-only ports accept a write with no effect (41_dispatcher.md R110). -/
def Obligations.UnidentifiedWritesHaveNoEffect : Prop :=
  ∀ (s : State) (d : Byte), s.running →
    let t := { s with io := { s.io with result := none } }
    (decode s.params (spellIow 0x0A#8 d) = .ok (.iowUnid0A d) ∧ exec (.iowUnid0A d) s = .next t) ∧
    (decode s.params (spellIow 0x0E#8 d) = .ok (.iowUnid0E0F 0 d) ∧ exec (.iowUnid0E0F 0 d) s = .next t) ∧
    (decode s.params (spellIow 0x0F#8 d) = .ok (.iowUnid0E0F 1 d) ∧ exec (.iowUnid0E0F 1 d) s = .next t) ∧
    (decode s.params (spellIow 0x1F#8 d) = .ok (.iowUnid1F d) ∧ exec (.iowUnid1F d) s = .next t)

/-- Every read the port map gives no handler returns the idle value 0xFF and changes nothing (41_dispatcher.md R111). That 0x40..0xFF are unmapped and no
mirrors is the spec's own decision D2, log entry 11. -/
def Obligations.UnmappedReadsReturnIdle : Prop :=
  ∀ s : State, s.running →
    let t := { s with io := { s.io with result := some 0xFF#8 } }
    (decode s.params (spellIor 0x0A#8) = .ok .iorUnmapped0A ∧ exec .iorUnmapped0A s = .next t) ∧
    (∀ off : BitVec 1, decode s.params (spellIor (0x0E#8 + off.setWidth 8)) = .ok (.iorUnmapped0E0F off) ∧
      exec (.iorUnmapped0E0F off) s = .next t) ∧
    (decode s.params (spellIor 0x1F#8) = .ok .iorUnmapped1F ∧ exec .iorUnmapped1F s = .next t) ∧
    (∀ a : Port, a ∈ Config.freePorts → a ≠ s.params.pIntEnable → a ≠ s.params.pIntSelect → a ≠ s.params.pTpCoord →
      a ≠ s.params.pTpRowsel → a ≠ s.params.pTpMode → a ≠ s.params.pTpUnused →
      decode s.params (spellIor a) = .ok (.iorUnmappedFree a) ∧ exec (.iorUnmappedFree a) s = .next t) ∧
    (∀ off : BitVec 6, decode s.params (spellIor (0x40#8 + off.setWidth 8)) = .ok (.iorUnmapped407F off) ∧
      exec (.iorUnmapped407F off) s = .next t) ∧
    (∀ off : BitVec 7, decode s.params (spellIor (0x80#8 + off.setWidth 8)) = .ok (.iorUnmapped80FF off) ∧
      exec (.iorUnmapped80FF off) s = .next t)

/-- Every write the port map gives no handler is discarded (41_dispatcher.md R112). That 0x40..0xFF are unmapped and no mirrors is the spec's own decision
D2, log entry 11. -/
def Obligations.UnmappedWritesAreDiscarded : Prop :=
  ∀ (s : State) (d : Byte), s.running →
    let t := { s with io := { s.io with result := none } }
    (∀ a : Port, a ∈ Config.freePorts → a ≠ s.params.pIntEnable → a ≠ s.params.pIntSelect →
      a ≠ s.params.pTpRowsel → a ≠ s.params.pTpMode → a ≠ s.params.pTpUnused →
      decode s.params (spellIow a d) = .ok (.iowUnmappedFree a d) ∧ exec (.iowUnmappedFree a d) s = .next t) ∧
    (∀ off : BitVec 6, decode s.params (spellIow (0x40#8 + off.setWidth 8) d) = .ok (.iowUnmapped407F off d) ∧
      exec (.iowUnmapped407F off d) s = .next t) ∧
    (∀ off : BitVec 7, decode s.params (spellIow (0x80#8 + off.setWidth 8) d) = .ok (.iowUnmapped80FF off d) ∧
      exec (.iowUnmapped80FF off d) s = .next t)

/-- Port A is an environment's byte and port C reads 0xFF (41_dispatcher.md R113, R114, decision D16). The port A byte is a free value. -/
def Obligations.PortAIsExternalAndPortCIsIdle : Prop :=
  ∀ s : State, s.running →
    (decode s.params 0xC0000000#32 = .ok .pain ∧
      exec .pain s = .next
        { s with io := { s.io with result := some (Config.ext .portA s.io.tick), tick := s.io.tick + 1 } }) ∧
    (decode s.params 0xE0000000#32 = .ok .pcin ∧
      exec .pcin s = .next { s with io := { s.io with result := some 0xFF#8 } })

/-- A port C output is logged and has no effect on the block (41_dispatcher.md R115). -/
def Obligations.PortCOutputIsOnlyLogged : Prop :=
  ∀ (s : State) (d : Byte), s.running →
    decode s.params (spellPcout d) = .ok (.pcout d) ∧
    exec (.pcout d) s = .next { s with io := { s.io with result := none, trace := .logPortC d :: s.io.trace } }

/-! ## The touchpad -/

/-- The three touchpad control registers latch the whole byte written and nothing else changes (42_touchpad.md R116 to R118). -/
def Obligations.TouchpadControlWritesLatchTheByte : Prop :=
  ∀ (s : State) (d : Byte), s.running →
    (decode s.params (spellIow s.params.pTpRowsel d) = .ok (.iowTpRowsel d) ∧
      exec (.iowTpRowsel d) s = .next
        { s with blk := { s.blk with tpRowsel := d }, io := { s.io with result := none } }) ∧
    (decode s.params (spellIow s.params.pTpMode d) = .ok (.iowTpMode d) ∧
      exec (.iowTpMode d) s = .next
        { s with blk := { s.blk with tpMode := d }, io := { s.io with result := none } }) ∧
    (decode s.params (spellIow s.params.pTpUnused d) = .ok (.iowTpUnused d) ∧
      exec (.iowTpUnused d) s = .next
        { s with blk := { s.blk with tpUnused := d }, io := { s.io with result := none } })

/-- The touch input sets one row register; every other row and field stays (42_touchpad.md R120, decision D21). -/
def Obligations.TouchInputSetsOneRow : Prop :=
  ∀ (s : State) (r : Fin 20) (c : Row), s.running →
    decode s.params (spellRow r c) = .ok (.row r c) ∧
    ∃ rows : Vector Row 20, rows[r] = c ∧ (∀ j : Fin 20, j ≠ r → rows[j] = s.blk.row[j]) ∧
      exec (.row r c) s = .next { s with blk := { s.blk with row := rows }, io := { s.io with result := none } }

/-- The scan: with every row zero it answers false and changes nothing; otherwise it answers true and latches the table values of the lowest
touched row's lowest touched column (42_touchpad.md R121). -/
def Obligations.ScanReportsTheLowestTouchedCell : Prop :=
  ∀ (p : Params) (b : Block),
    ((∀ r : Fin 20, b.row[r] = 0#24) → b.isPressed p = (b, false)) ∧
    (∀ (r : Fin 20) (c : Fin 24), (∀ j : Fin 20, j < r → b.row[j] = 0#24) →
      b.row[r].getLsbD c.val = true → (∀ j : Fin 24, j < c → b.row[r].getLsbD j.val = false) →
      b.isPressed p = ({ b with sampledX := p.xtab[c], sampledY := p.ytab[r] }, true)) ∧
    ((∃ r : Fin 20, b.row[r] ≠ 0#24) → (b.isPressed p).2 = true)

/-- A read of the coordinate port returns `sampledY` if column-select is set and `sampledX` if not, and does not rescan
(42_touchpad.md R122). -/
def Obligations.CoordinateReadFollowsColumnSelect : Prop :=
  ∀ s : State, s.running →
    let creg := match s.params.cselReg with
      | .rowsel => s.blk.tpRowsel
      | .mode => s.blk.tpMode
      | .unused => s.blk.tpUnused
    decode s.params (spellIor s.params.pTpCoord) = .ok .iorTpCoord ∧
    exec .iorTpCoord s = .next
      { s with io := { s.io with
          result := some (if creg &&& s.params.cselMask ≠ 0#8 then s.blk.sampledY else s.blk.sampledX) } }

/-- A read of a control port that is not the coordinate port returns an environment's byte (42_touchpad.md R123, decision D8). The byte is a free
value. -/
def Obligations.TouchpadControlReadsAreExternal : Prop :=
  ∀ (s : State) (r : TpReg), s.running → s.params.tpPort r ≠ s.params.pTpCoord →
    decode s.params (spellIor (s.params.tpPort r)) = .ok (.iorTpCtrl r) ∧
    exec (.iorTpCtrl r) s = .next
      { s with io := { s.io with result := some (Config.ext .tpCtrlRead s.io.tick), tick := s.io.tick + 1 } }

/-- A port-B sample while scanning is enabled: available reads 0, pressed reads 0 if a cell is touched and 1 if none is, the other bits are
the environment's, and the coordinates are latched only if a cell is touched (42_touchpad.md R125, decisions D13, D15). -/
def Obligations.PortBSampleScansWhileEnabled : Prop :=
  ∀ s : State, s.running → s.blk.tp s.params.scanReg &&& s.params.scanMask ≠ 0#8 →
    decode s.params 0xA0000000#32 = .ok .pbin ∧
    ∃ v : Byte,
      bitAt v s.params.pbAvailBit = false ∧
      (bitAt v s.params.pbPressBit = true ↔ ∀ r : Fin 20, s.blk.row[r] = 0#24) ∧
      (∀ i : Fin 8, i ≠ s.params.pbAvailBit → i ≠ s.params.pbPressBit →
        bitAt v i = bitAt (Config.ext .tapeBits s.io.tick) i) ∧
      exec .pbin s = .next
        { s with
          blk := (s.blk.isPressed s.params).1
          io := { s.io with result := some v, tick := s.io.tick + 1 } }

/-- A port-B sample while scanning is disabled: no scan, available reads 1, pressed reads 0 (42_touchpad.md R125, decisions D13, D15). -/
def Obligations.PortBSampleDoesNotScanWhileDisabled : Prop :=
  ∀ s : State, s.running → s.blk.tp s.params.scanReg &&& s.params.scanMask = 0#8 →
    ∃ v : Byte,
      bitAt v s.params.pbAvailBit = true ∧ bitAt v s.params.pbPressBit = false ∧
      (∀ i : Fin 8, i ≠ s.params.pbAvailBit → i ≠ s.params.pbPressBit →
        bitAt v i = bitAt (Config.ext .tapeBits s.io.tick) i) ∧
      exec .pbin s = .next { s with io := { s.io with result := some v, tick := s.io.tick + 1 } }

/-- The coordinates change only in a port-B sample with scanning enabled and some cell touched (42_touchpad.md R124). -/
def Obligations.CoordinatesChangeOnlyInASuccessfulScan : Prop :=
  ∀ s t : State, step s = .next t →
    (t.blk.sampledX ≠ s.blk.sampledX ∨ t.blk.sampledY ≠ s.blk.sampledY) →
    s.nextOperation = some .pbin ∧ s.blk.tp s.params.scanReg &&& s.params.scanMask ≠ 0#8 ∧
      ∃ r : Fin 20, s.blk.row[r] ≠ 0#24

/-- Once the coordinates are values of the tables they stay so, whatever step is taken (42_touchpad.md R129). -/
def Obligations.SampledCoordinatesStayTableValues : Prop :=
  ∀ s t : State, s.sampledFromTables → step s = .next t → t.sampledFromTables

/-- A port-B sample that finds a touch makes both coordinates table values, whatever they were (42_touchpad.md R129). -/
def Obligations.SuccessfulScanLatchesTableValues : Prop :=
  ∀ (s : State) (r : Fin 20), s.running → s.blk.tp s.params.scanReg &&& s.params.scanMask ≠ 0#8 → s.blk.row[r] ≠ 0#24 →
    ∃ t, exec .pbin s = .next t ∧ t.sampledFromTables

/-! ## Reset -/

/-- Reset leaves every field that 10_state.md R43 gives a value at that value, for every instantiation: the spec's own decision D11. The three fields it
leaves unspecified are not stated. -/
def Obligations.ResetLeavesTheDecidedValues : Prop :=
  State.reset.blk.pending = 0x00#8 ∧ State.reset.blk.enabled = 0x00#8 ∧
  State.reset.blk.prevVideo = false ∧ State.reset.blk.prevSpeech = false ∧ State.reset.blk.irq = false ∧
  State.reset.blk.tpRowsel = 0x00#8 ∧ State.reset.blk.tpMode = 0x00#8 ∧ State.reset.blk.tpUnused = 0x00#8 ∧
  (∀ r : Fin 20, State.reset.blk.row[r] = 0#24) ∧
  State.reset.blk.spkMd = false ∧ State.reset.blk.spkBank = false ∧ State.reset.blk.fault = none ∧
  State.reset.blk.scanEnable State.reset.params = false ∧ State.reset.blk.columnSelect State.reset.params = false

/-! ## Whole-machine rules -/

/-- Each field of the block state is changed only by operations of the agents it belongs to: pending bits by a rising edge of the video or the speech
chip and by the CPU's acknowledge; the line by those chips' edges, the CPU's two mask writes and its acknowledge; the enabled mask, touchpad controls and speech
lines by CPU writes; the edge levels by their chips; rows by the host input; coordinates by the parallel-interface chip's samples; the vector and the fault by an
acknowledge (20_memory.md R45, 10_state.md R23 to R34). -/
def Obligations.BlockFieldsChangeOnlyByTheirAgents : Prop :=
  ∀ s t : State, step s = .next t →
    (t.blk.pending ≠ s.blk.pending → ∃ i, s.nextOperation = some i ∧
      ((i = .edgeVideo true ∧ i.agent = .videoChip) ∨ (i = .edgeSpeech true ∧ i.agent = .speechChip) ∨
        (i = .inta ∧ i.agent = .cpu))) ∧
    (t.blk.irq ≠ s.blk.irq → ∃ i, s.nextOperation = some i ∧
      ((∃ l, i = .edgeVideo l ∧ i.agent = .videoChip) ∨ (∃ l, i = .edgeSpeech l ∧ i.agent = .speechChip) ∨
        (i.agent = .cpu ∧ (i = .inta ∨ ∃ d, i = .iowIntEnable d ∨ i = .iowIntSelect d)))) ∧
    ((t.blk.enabled ≠ s.blk.enabled ∨ t.blk.tpRowsel ≠ s.blk.tpRowsel ∨ t.blk.tpMode ≠ s.blk.tpMode ∨
        t.blk.tpUnused ≠ s.blk.tpUnused ∨ t.blk.spkMd ≠ s.blk.spkMd ∨ t.blk.spkBank ≠ s.blk.spkBank) →
      ∃ i, s.nextOperation = some i ∧ i.agent = .cpu ∧ i.opClass = .iow) ∧
    (t.blk.prevVideo ≠ s.blk.prevVideo → ∃ i, s.nextOperation = some i ∧ i.agent = .videoChip) ∧
    (t.blk.prevSpeech ≠ s.blk.prevSpeech → ∃ i, s.nextOperation = some i ∧ i.agent = .speechChip) ∧
    (t.blk.row ≠ s.blk.row → ∃ i, s.nextOperation = some i ∧ i.agent = .hostInput) ∧
    ((t.blk.sampledX ≠ s.blk.sampledX ∨ t.blk.sampledY ≠ s.blk.sampledY) →
      ∃ i, s.nextOperation = some i ∧ i.agent = .ppiChip) ∧
    ((t.blk.vector ≠ s.blk.vector ∨ t.blk.fault ≠ s.blk.fault) → s.nextOperation = some .inta)

/-- An I/O read returns a byte and leaves the block state unchanged, whatever port it reads (20_memory.md R50). For a read at 0x04..0x07 this is the model's
choice, log entry 10: the port-B sample that R50 (b) says it may cause is an operation of its own (41_dispatcher.md R98). For the ports with only a write
function it rests on decision D8. -/
def Obligations.PortReadsLeaveTheBlockUnchanged : Prop :=
  ∀ (s : State) (i : Instr), s.running → i.opClass = .ior →
    ∃ t v, exec i s = .next t ∧ t.blk = s.blk ∧ t.io.result = some v

/-- An operation hands back a byte exactly if it is an I/O read, a port input sample or an acknowledge that is not fatal
(20_memory.md R49, 30_encoding.md R63 to R70, 60_exceptions.md R133). The record of the last byte is log entry 4; that the fatal acknowledge answers a next
state is log entry 6, on decision D20. -/
def Obligations.OnlyReadingOperationsReturnAByte : Prop :=
  ∀ (s t : State) (i : Instr), exec i s = .next t →
    (t.io.result.isSome = true ↔
      i.opClass = .ior ∨ i = .pbin ∨ i = .pain ∨ i = .pcin ∨ (i = .inta ∧ t.blk.fault = none))

/-- A repeated mask write, control write or speech control write leaves the block as the first one left it, and so does a repeated port-B sample
(20_memory.md R51). -/
def Obligations.RepeatedWritesAndSamplesAreIdempotent : Prop :=
  ∀ (s t u : State) (i : Instr) (d : Byte),
    (i = .iowIntEnable d ∨ i = .iowIntSelect d ∨ i = .iowTpRowsel d ∨ i = .iowTpMode d ∨ i = .iowTpUnused d ∨
      i = .iowSpkctl d ∨ i = .pbin) →
    exec i s = .next t → exec i t = .next u → u.blk = t.blk

/-- A signal callback nested in a forwarded access reaches the block as if it followed it: performed in either order, the access and the callback leave the
same block state (20_memory.md R56, on decision D22). -/
def Obligations.ForwardedAccessCommutesWithACallback : Prop :=
  ∀ (s t u t' u' : State) (i cb : Instr) (off2 : BitVec 2) (off1 : BitVec 1) (off5 : BitVec 5) (d : Byte),
    (i = .iorVdp off2 ∨ i = .iowVdp off2 d ∨ i = .iorPpi off2 ∨ i = .iowPpi off2 d ∨ i = .iorSio off1 ∨
      i = .iowSio off1 d ∨ i = .iowPsg d ∨ i = .iowSpkdata off1 d ∨ i = .iorExp off5 ∨ i = .iowExp off5 d) →
    cb.agent = .videoChip ∨ cb.agent = .speechChip ∨ cb.agent = .ppiChip →
    exec i s = .next t → exec cb t = .next u → exec cb s = .next t' → exec i t' = .next u' →
    u.blk = u'.blk

/-- The interrupt part of the next state depends on nothing but the interrupt part and the operations presented: not on the touchpad, not on what the
environment answered before (00_scope.md R2, 40_interrupt.md R79 to R86). The operations are presented as log entry 3 says. -/
def Obligations.InterruptPartIsIndependentOfTheTouchpad : Prop :=
  ∀ s₁ s₂ t₁ t₂ : State, s₁.inst = s₂.inst → s₁.io.inbox = s₂.io.inbox →
    s₁.blk.interruptPart = s₂.blk.interruptPart →
    step s₁ = .next t₁ → step s₂ = .next t₂ → t₁.blk.interruptPart = t₂.blk.interruptPart

/-- The touchpad part of the next state depends on nothing but the touchpad part and the operations presented (00_scope.md R2,
42_touchpad.md R116 to R125). The operations are presented as log entry 3 says. -/
def Obligations.TouchpadPartIsIndependentOfInterrupts : Prop :=
  ∀ s₁ s₂ t₁ t₂ : State, s₁.inst = s₂.inst → s₁.io.inbox = s₂.io.inbox →
    s₁.blk.touchpadPart = s₂.blk.touchpadPart →
    step s₁ = .next t₁ → step s₂ = .next t₂ → t₁.blk.touchpadPart = t₂.blk.touchpadPart

/-- Along any run the instantiation stays, the presented words are consumed in order, the counter of external values never falls and the record of outward
actions only grows. These fields are the model's own: log entry 1 (the instantiation), 2 (the counter), 3 (the presented words) and 4 (the record). -/
def Obligations.RunsConsumeInOrderAndNeverRetract : Prop :=
  ∀ (k : Nat) (s t : State), run k s = .next t →
    t.inst = s.inst ∧ t.io.inbox = s.io.inbox.drop k ∧ s.io.tick ≤ t.io.tick ∧ ∃ more, t.io.trace = more ++ s.io.trace
end

