-- ==== Sys2Proof/Laws/Bits.lean ====
section
/-! SUPPORT. The operations on one bit of a byte, said once: what reading a bit after writing one gives. -/

namespace Sys2Proof.Machine

/-- A byte's bits decide it. -/
theorem byte_ext {v w : Byte} (h : ∀ i : Fin 8, bitAt v i = bitAt w i) : v = w :=
  BitVec.eq_of_getLsbD_eq fun i hi => h ⟨i, hi⟩

/-- The one-bit byte used by `putBit`. -/
theorem getLsbD_one_shiftLeft (i j : Fin 8) : (1#8 <<< i.val).getLsbD j.val = decide (i = j) := by
  revert i j; decide

/-- Read after write of one bit: the written bit reads as written, every other as before. -/
@[simp] theorem bitAt_putBit (v : Byte) (i j : Fin 8) (b : Bool) :
    bitAt (putBit v i b) j = if i = j then b else bitAt v j := by
  have hj : decide (j.val < 8) = true := decide_eq_true j.isLt
  cases b
  · simp only [bitAt, putBit, Bool.false_eq_true, if_false, BitVec.getLsbD_and, BitVec.getLsbD_not,
      getLsbD_one_shiftLeft, hj, Bool.true_and]
    by_cases h : i = j <;> simp [h]
  · simp only [bitAt, putBit, if_true, BitVec.getLsbD_or, getLsbD_one_shiftLeft]
    by_cases h : i = j <;> simp [h]

@[simp] theorem bitAt_and (v w : Byte) (i : Fin 8) : bitAt (v &&& w) i = (bitAt v i && bitAt w i) := by
  simp [bitAt]

@[simp] theorem bitAt_zero (i : Fin 8) : bitAt 0#8 i = false := by simp [bitAt]

/-- The line is asserted exactly when some bit is both pending and enabled (10_state.md R27). -/
theorem lineLevel_eq_true_iff (x y : Byte) : lineLevel x y = true ↔ ∃ i : Fin 8, bitAt x i = true ∧ bitAt y i = true := by
  constructor
  · intro h
    by_contra hn
    have : x &&& y = 0#8 := byte_ext fun i => by
      rw [bitAt_and, bitAt_zero]
      by_contra hb
      exact hn ⟨i, by simpa using hb⟩
    simp [lineLevel, this] at h
  · rintro ⟨i, hx, hy⟩
    by_contra hn
    have h0 : x &&& y = 0#8 := by simpa [lineLevel] using hn
    have : bitAt (x &&& y) i = true := by simp [hx, hy]
    simp [h0] at this

/-- The pin index of a writeSelect byte is its bits 3:1 (10_state.md R37). -/
theorem pinIndex_val (d : Byte) : (pinIndex d).val = ((d >>> 1) &&& 0x7#8).toNat := rfl

/-- The set bit of a writeSelect byte is its bit 0 (10_state.md R37). -/
theorem selectSets_eq (d : Byte) : selectSets d = d.getLsbD 0 := by
  revert d; decide

end Sys2Proof.Machine
end

