-- ==== Sys2Proof/Laws/Encoding.lean ====
section
/-! SUPPORT. The value of each word the encoder builds, and of the fields the decoder reads: what the round trip between them rests on. -/

namespace Sys2Proof

/-! ### The words built -/

/-- The value of two joined fields. -/
theorem toNat_join {m n : Nat} (x : BitVec m) (y : BitVec n) : (x ++ y).toNat = x.toNat * 2 ^ n + y.toNat := by
  rw [BitVec.toNat_append, ← Nat.shiftLeft_add_eq_or_of_lt y.isLt, Nat.shiftLeft_eq]

theorem toNat_iorWord (a : Port) : (iorWord a).toNat = a.toNat * 256 := by
  refine (toNat_join (OpClass.ior.code ++ 0#13 ++ a) 0#8).trans ?_
  rw [toNat_join, toNat_join]
  simp [OpClass.code]

theorem toNat_iowWord (a : Port) (d : Byte) : (iowWord a d).toNat = 0x20000000 + a.toNat * 256 + d.toNat := by
  refine (toNat_join (OpClass.iow.code ++ 0#13 ++ a) d).trans ?_
  rw [toNat_join, toNat_join]
  simp [OpClass.code]
  omega

theorem toNat_edgeWord (src : BitVec 2) (l : Bool) :
    (edgeWord src l).toNat = 0x40000000 + src.toNat * 256 + l.toNat := by
  refine (toNat_join (OpClass.edge.code ++ 0#19 ++ src ++ 0#7) (BitVec.ofBool l)).trans ?_
  rw [toNat_join, toNat_join, toNat_join]
  simp [OpClass.code]
  omega

theorem toNat_bareWord (k : OpClass) : (bareWord k).toNat = k.code.toNat * 2 ^ 29 := by
  refine (toNat_join k.code 0#29).trans ?_
  simp

theorem toNat_rowWord (r : Fin 20) (c : Row) : (rowWord r c).toNat = 0x80000000 + r.val * 2 ^ 24 + c.toNat := by
  have := r.isLt
  refine (toNat_join (OpClass.row.code ++ BitVec.ofNat 5 r.val) c).trans ?_
  rw [toNat_join]
  simp [OpClass.code]
  omega

theorem toNat_pcWord (w : Bool) (d : Byte) : (pcWord w d).toNat = 0xE0000000 + w.toNat * 256 + d.toNat := by
  refine (toNat_join (OpClass.pc.code ++ 0#20 ++ BitVec.ofBool w) d).trans ?_
  rw [toNat_join, toNat_join]
  simp [OpClass.code]
  omega

/-! ### The fields read -/

/-- A field is a quotient and a remainder of the word's value. -/
theorem toNat_field (w : Word) (start len : Nat) :
    (w.extractLsb' start len).toNat = w.toNat / 2 ^ start % 2 ^ len := by
  rw [BitVec.extractLsb'_toNat, Nat.shiftRight_eq_div_pow]

/-- One bit of a word is a quotient and a remainder of its value. -/
theorem getLsbD_field (w : Word) (i : Nat) : w.getLsbD i = decide (w.toNat / 2 ^ i % 2 = 1) := by
  rw [BitVec.getLsbD, Nat.testBit_eq_decide_div_mod_eq]

theorem toNat_classField (w : Word) : (classField w).toNat = w.toNat / 2 ^ 29 := by
  have := w.isLt
  rw [classField, toNat_field]
  omega

theorem toNat_portField (w : Word) : (portField w).toNat = w.toNat / 256 % 256 := toNat_field w 8 8

theorem toNat_dataField (w : Word) : (dataField w).toNat = w.toNat % 256 := by
  rw [dataField, toNat_field]
  omega

/-! ### The class field of every kind of word (30_encoding.md R62) -/

/-- A class is read back from its code. -/
@[simp] theorem OpClass.ofCode_code (k : OpClass) : OpClass.ofCode k.code = k := by
  cases k <;> rfl

/-- A code is the code of the class it selects. -/
@[simp] theorem OpClass.code_ofCode (k : BitVec 3) : (OpClass.ofCode k).code = k := by
  revert k; decide

/-- Two class fields agree when their values do: the working form of the lemmas below. -/
theorem classField_eq {w : Word} {k : OpClass} (h : w.toNat / 2 ^ 29 = k.code.toNat) : classField w = k.code :=
  BitVec.eq_of_toNat_eq ((toNat_classField w).trans h)

@[simp] theorem classField_iorWord (a : Port) : classField (iorWord a) = OpClass.ior.code :=
  classField_eq (by rw [toNat_iorWord]; have := a.isLt; simp [OpClass.code]; omega)

@[simp] theorem classField_iowWord (a : Port) (d : Byte) : classField (iowWord a d) = OpClass.iow.code :=
  classField_eq (by rw [toNat_iowWord]; have := a.isLt; have := d.isLt; simp [OpClass.code]; omega)

@[simp] theorem classField_edgeWord (src : BitVec 2) (l : Bool) : classField (edgeWord src l) = OpClass.edge.code :=
  classField_eq (by rw [toNat_edgeWord]; have := src.isLt; have := Bool.toNat_le l; simp [OpClass.code]; omega)

@[simp] theorem classField_bareWord (k : OpClass) : classField (bareWord k) = k.code :=
  classField_eq (by rw [toNat_bareWord]; simp)

@[simp] theorem classField_rowWord (r : Fin 20) (c : Row) : classField (rowWord r c) = OpClass.row.code :=
  classField_eq (by rw [toNat_rowWord]; have := r.isLt; have := c.isLt; simp [OpClass.code]; omega)

@[simp] theorem classField_pcWord (w : Bool) (d : Byte) : classField (pcWord w d) = OpClass.pc.code :=
  classField_eq (by rw [toNat_pcWord]; have := d.isLt; have := Bool.toNat_le w; simp [OpClass.code]; omega)

/-! ### The windows of the port map (41_dispatcher.md R95) -/

/-- The port at an offset of a window lies in it, for each window. -/
theorem inWindow_windowPort :
    (∀ off : BitVec 2, inWindow Config.vdpBase 2 (windowPort Config.vdpBase off) = true) ∧
    (∀ off : BitVec 2, inWindow Config.ppiBase 2 (windowPort Config.ppiBase off) = true) ∧
    (∀ off : BitVec 1, inWindow Config.sioBase 1 (windowPort Config.sioBase off) = true) ∧
    (∀ off : BitVec 1, inWindow Config.unid0E 1 (windowPort Config.unid0E off) = true) ∧
    (∀ off : BitVec 1, inWindow Config.spkDataBase 1 (windowPort Config.spkDataBase off) = true) ∧
    (∀ off : BitVec 5, inWindow Config.expBase 5 (windowPort Config.expBase off) = true) ∧
    (∀ off : BitVec 6, inWindow Config.unmapped40 6 (windowPort Config.unmapped40 off) = true) ∧
    (∀ off : BitVec 7, inWindow Config.unmapped80 7 (windowPort Config.unmapped80 off) = true) := by
  decide

end Sys2Proof
end

