-- ==== Sys2Proof/Laws/State.lean ====
section
/-! SUPPORT. One lemma per field per update: what each update of the block and of the boundary leaves in each field. No later proof
needs to unfold a record update. -/

namespace Sys2Proof.Machine

variable (b : Block)

/-! ### recomputeLine (40_interrupt.md R78) -/

@[simp] theorem Block.recomputeLine_pending : b.recomputeLine.pending = b.pending := rfl
@[simp] theorem Block.recomputeLine_enabled : b.recomputeLine.enabled = b.enabled := rfl
@[simp] theorem Block.recomputeLine_vector : b.recomputeLine.vector = b.vector := rfl
@[simp] theorem Block.recomputeLine_prevVideo : b.recomputeLine.prevVideo = b.prevVideo := rfl
@[simp] theorem Block.recomputeLine_prevSpeech : b.recomputeLine.prevSpeech = b.prevSpeech := rfl
@[simp] theorem Block.recomputeLine_irq : b.recomputeLine.irq = lineLevel b.pending b.enabled := rfl
@[simp] theorem Block.recomputeLine_tpRowsel : b.recomputeLine.tpRowsel = b.tpRowsel := rfl
@[simp] theorem Block.recomputeLine_tpMode : b.recomputeLine.tpMode = b.tpMode := rfl
@[simp] theorem Block.recomputeLine_tpUnused : b.recomputeLine.tpUnused = b.tpUnused := rfl
@[simp] theorem Block.recomputeLine_sampledX : b.recomputeLine.sampledX = b.sampledX := rfl
@[simp] theorem Block.recomputeLine_sampledY : b.recomputeLine.sampledY = b.sampledY := rfl
@[simp] theorem Block.recomputeLine_row : b.recomputeLine.row = b.row := rfl
@[simp] theorem Block.recomputeLine_spkMd : b.recomputeLine.spkMd = b.spkMd := rfl
@[simp] theorem Block.recomputeLine_spkBank : b.recomputeLine.spkBank = b.spkBank := rfl
@[simp] theorem Block.recomputeLine_fault : b.recomputeLine.fault = b.fault := rfl

/-! ### The store of a level (10_state.md R26) -/

@[simp] theorem Block.setPrev_pending (src : Source) (l : Bool) : (b.setPrev src l).pending = b.pending := by cases src <;> rfl
@[simp] theorem Block.setPrev_enabled (src : Source) (l : Bool) : (b.setPrev src l).enabled = b.enabled := by cases src <;> rfl
@[simp] theorem Block.setPrev_vector (src : Source) (l : Bool) : (b.setPrev src l).vector = b.vector := by cases src <;> rfl
@[simp] theorem Block.setPrev_irq (src : Source) (l : Bool) : (b.setPrev src l).irq = b.irq := by cases src <;> rfl
@[simp] theorem Block.setPrev_tpRowsel (src : Source) (l : Bool) : (b.setPrev src l).tpRowsel = b.tpRowsel := by cases src <;> rfl
@[simp] theorem Block.setPrev_tpMode (src : Source) (l : Bool) : (b.setPrev src l).tpMode = b.tpMode := by cases src <;> rfl
@[simp] theorem Block.setPrev_tpUnused (src : Source) (l : Bool) : (b.setPrev src l).tpUnused = b.tpUnused := by cases src <;> rfl
@[simp] theorem Block.setPrev_sampledX (src : Source) (l : Bool) : (b.setPrev src l).sampledX = b.sampledX := by cases src <;> rfl
@[simp] theorem Block.setPrev_sampledY (src : Source) (l : Bool) : (b.setPrev src l).sampledY = b.sampledY := by cases src <;> rfl
@[simp] theorem Block.setPrev_row (src : Source) (l : Bool) : (b.setPrev src l).row = b.row := by cases src <;> rfl
@[simp] theorem Block.setPrev_spkMd (src : Source) (l : Bool) : (b.setPrev src l).spkMd = b.spkMd := by cases src <;> rfl
@[simp] theorem Block.setPrev_spkBank (src : Source) (l : Bool) : (b.setPrev src l).spkBank = b.spkBank := by cases src <;> rfl
@[simp] theorem Block.setPrev_fault (src : Source) (l : Bool) : (b.setPrev src l).fault = b.fault := by cases src <;> rfl
@[simp] theorem Block.setPrev_prev (src : Source) (l : Bool) (other : Source) :
    (b.setPrev src l).prev other = if other = src then l else b.prev other := by
  cases src <;> cases other <;> rfl
@[simp] theorem Block.setPrev_prevVideo (src : Source) (l : Bool) :
    (b.setPrev src l).prevVideo = if src = .video then l else b.prevVideo := by
  cases src <;> rfl
@[simp] theorem Block.setPrev_prevSpeech (src : Source) (l : Bool) :
    (b.setPrev src l).prevSpeech = if src = .speech then l else b.prevSpeech := by
  cases src <;> rfl

/-! ### The signal callback (40_interrupt.md R79, R80) -/

@[simp] theorem Block.signalEdge_pending (p : Params) (src : Source) (l : Bool) :
    (b.signalEdge p src l).pending =
      if l && !b.prev src then putBit b.pending (src.bit p) true else b.pending :=
  by cases src <;> rfl
@[simp] theorem Block.signalEdge_enabled (p : Params) (src : Source) (l : Bool) :
    (b.signalEdge p src l).enabled = b.enabled := by cases src <;> rfl
@[simp] theorem Block.signalEdge_vector (p : Params) (src : Source) (l : Bool) :
    (b.signalEdge p src l).vector = b.vector := by cases src <;> rfl
@[simp] theorem Block.signalEdge_irq (p : Params) (src : Source) (l : Bool) :
    (b.signalEdge p src l).irq =
      lineLevel (if l && !b.prev src then putBit b.pending (src.bit p) true else b.pending) b.enabled :=
  by cases src <;> rfl
@[simp] theorem Block.signalEdge_tpRowsel (p : Params) (src : Source) (l : Bool) :
    (b.signalEdge p src l).tpRowsel = b.tpRowsel := by cases src <;> rfl
@[simp] theorem Block.signalEdge_tpMode (p : Params) (src : Source) (l : Bool) :
    (b.signalEdge p src l).tpMode = b.tpMode := by cases src <;> rfl
@[simp] theorem Block.signalEdge_tpUnused (p : Params) (src : Source) (l : Bool) :
    (b.signalEdge p src l).tpUnused = b.tpUnused := by cases src <;> rfl
@[simp] theorem Block.signalEdge_sampledX (p : Params) (src : Source) (l : Bool) :
    (b.signalEdge p src l).sampledX = b.sampledX := by cases src <;> rfl
@[simp] theorem Block.signalEdge_sampledY (p : Params) (src : Source) (l : Bool) :
    (b.signalEdge p src l).sampledY = b.sampledY := by cases src <;> rfl
@[simp] theorem Block.signalEdge_row (p : Params) (src : Source) (l : Bool) :
    (b.signalEdge p src l).row = b.row := by cases src <;> rfl
@[simp] theorem Block.signalEdge_spkMd (p : Params) (src : Source) (l : Bool) :
    (b.signalEdge p src l).spkMd = b.spkMd := by cases src <;> rfl
@[simp] theorem Block.signalEdge_spkBank (p : Params) (src : Source) (l : Bool) :
    (b.signalEdge p src l).spkBank = b.spkBank := by cases src <;> rfl
@[simp] theorem Block.signalEdge_fault (p : Params) (src : Source) (l : Bool) :
    (b.signalEdge p src l).fault = b.fault := by cases src <;> rfl
@[simp] theorem Block.signalEdge_prev (p : Params) (src : Source) (l : Bool) (other : Source) :
    (b.signalEdge p src l).prev other = if other = src then l else b.prev other := by
  cases src <;> cases other <;> rfl
@[simp] theorem Block.signalEdge_prevVideo (p : Params) (src : Source) (l : Bool) :
    (b.signalEdge p src l).prevVideo = if src = .video then l else b.prevVideo := by
  cases src <;> rfl
@[simp] theorem Block.signalEdge_prevSpeech (p : Params) (src : Source) (l : Bool) :
    (b.signalEdge p src l).prevSpeech = if src = .speech then l else b.prevSpeech := by
  cases src <;> rfl

/-! ### writeEnable (40_interrupt.md R81) -/

@[simp] theorem Block.writeEnable_pending (d : Byte) : (b.writeEnable d).pending = b.pending := rfl
@[simp] theorem Block.writeEnable_enabled (d : Byte) : (b.writeEnable d).enabled = d := rfl
@[simp] theorem Block.writeEnable_vector (d : Byte) : (b.writeEnable d).vector = b.vector := rfl
@[simp] theorem Block.writeEnable_prevVideo (d : Byte) : (b.writeEnable d).prevVideo = b.prevVideo := rfl
@[simp] theorem Block.writeEnable_prevSpeech (d : Byte) : (b.writeEnable d).prevSpeech = b.prevSpeech := rfl
@[simp] theorem Block.writeEnable_irq (d : Byte) : (b.writeEnable d).irq = lineLevel b.pending d := rfl
@[simp] theorem Block.writeEnable_tpRowsel (d : Byte) : (b.writeEnable d).tpRowsel = b.tpRowsel := rfl
@[simp] theorem Block.writeEnable_tpMode (d : Byte) : (b.writeEnable d).tpMode = b.tpMode := rfl
@[simp] theorem Block.writeEnable_tpUnused (d : Byte) : (b.writeEnable d).tpUnused = b.tpUnused := rfl
@[simp] theorem Block.writeEnable_sampledX (d : Byte) : (b.writeEnable d).sampledX = b.sampledX := rfl
@[simp] theorem Block.writeEnable_sampledY (d : Byte) : (b.writeEnable d).sampledY = b.sampledY := rfl
@[simp] theorem Block.writeEnable_row (d : Byte) : (b.writeEnable d).row = b.row := rfl
@[simp] theorem Block.writeEnable_spkMd (d : Byte) : (b.writeEnable d).spkMd = b.spkMd := rfl
@[simp] theorem Block.writeEnable_spkBank (d : Byte) : (b.writeEnable d).spkBank = b.spkBank := rfl
@[simp] theorem Block.writeEnable_fault (d : Byte) : (b.writeEnable d).fault = b.fault := rfl

/-! ### writeSelect (40_interrupt.md R82) -/

@[simp] theorem Block.writeSelect_pending (d : Byte) : (b.writeSelect d).pending = b.pending := rfl
@[simp] theorem Block.writeSelect_enabled (d : Byte) :
    (b.writeSelect d).enabled = putBit b.enabled (pinIndex d) (selectSets d) := rfl
@[simp] theorem Block.writeSelect_vector (d : Byte) : (b.writeSelect d).vector = b.vector := rfl
@[simp] theorem Block.writeSelect_prevVideo (d : Byte) : (b.writeSelect d).prevVideo = b.prevVideo := rfl
@[simp] theorem Block.writeSelect_prevSpeech (d : Byte) : (b.writeSelect d).prevSpeech = b.prevSpeech := rfl
@[simp] theorem Block.writeSelect_irq (d : Byte) :
    (b.writeSelect d).irq = lineLevel b.pending (putBit b.enabled (pinIndex d) (selectSets d)) := rfl
@[simp] theorem Block.writeSelect_tpRowsel (d : Byte) : (b.writeSelect d).tpRowsel = b.tpRowsel := rfl
@[simp] theorem Block.writeSelect_tpMode (d : Byte) : (b.writeSelect d).tpMode = b.tpMode := rfl
@[simp] theorem Block.writeSelect_tpUnused (d : Byte) : (b.writeSelect d).tpUnused = b.tpUnused := rfl
@[simp] theorem Block.writeSelect_sampledX (d : Byte) : (b.writeSelect d).sampledX = b.sampledX := rfl
@[simp] theorem Block.writeSelect_sampledY (d : Byte) : (b.writeSelect d).sampledY = b.sampledY := rfl
@[simp] theorem Block.writeSelect_row (d : Byte) : (b.writeSelect d).row = b.row := rfl
@[simp] theorem Block.writeSelect_spkMd (d : Byte) : (b.writeSelect d).spkMd = b.spkMd := rfl
@[simp] theorem Block.writeSelect_spkBank (d : Byte) : (b.writeSelect d).spkBank = b.spkBank := rfl
@[simp] theorem Block.writeSelect_fault (d : Byte) : (b.writeSelect d).fault = b.fault := rfl

/-! ### The acknowledge of a source (40_interrupt.md R84) -/

@[simp] theorem Block.serve_pending (p : Params) (src : Source) :
    (b.serve p src).pending = putBit b.pending (src.bit p) false := rfl
@[simp] theorem Block.serve_enabled (p : Params) (src : Source) : (b.serve p src).enabled = b.enabled := rfl
@[simp] theorem Block.serve_vector (p : Params) (src : Source) : (b.serve p src).vector = src.vector := rfl
@[simp] theorem Block.serve_prevVideo (p : Params) (src : Source) : (b.serve p src).prevVideo = b.prevVideo := rfl
@[simp] theorem Block.serve_prevSpeech (p : Params) (src : Source) : (b.serve p src).prevSpeech = b.prevSpeech := rfl
@[simp] theorem Block.serve_irq (p : Params) (src : Source) :
    (b.serve p src).irq = lineLevel (putBit b.pending (src.bit p) false) b.enabled := rfl
@[simp] theorem Block.serve_tpRowsel (p : Params) (src : Source) : (b.serve p src).tpRowsel = b.tpRowsel := rfl
@[simp] theorem Block.serve_tpMode (p : Params) (src : Source) : (b.serve p src).tpMode = b.tpMode := rfl
@[simp] theorem Block.serve_tpUnused (p : Params) (src : Source) : (b.serve p src).tpUnused = b.tpUnused := rfl
@[simp] theorem Block.serve_sampledX (p : Params) (src : Source) : (b.serve p src).sampledX = b.sampledX := rfl
@[simp] theorem Block.serve_sampledY (p : Params) (src : Source) : (b.serve p src).sampledY = b.sampledY := rfl
@[simp] theorem Block.serve_row (p : Params) (src : Source) : (b.serve p src).row = b.row := rfl
@[simp] theorem Block.serve_spkMd (p : Params) (src : Source) : (b.serve p src).spkMd = b.spkMd := rfl
@[simp] theorem Block.serve_spkBank (p : Params) (src : Source) : (b.serve p src).spkBank = b.spkBank := rfl
@[simp] theorem Block.serve_fault (p : Params) (src : Source) : (b.serve p src).fault = b.fault := rfl

/-! ### The fatal acknowledge (60_exceptions.md R133) -/

@[simp] theorem Block.raiseFatalAck_pending : b.raiseFatalAck.pending = b.pending := rfl
@[simp] theorem Block.raiseFatalAck_enabled : b.raiseFatalAck.enabled = b.enabled := rfl
@[simp] theorem Block.raiseFatalAck_vector : b.raiseFatalAck.vector = b.vector := rfl
@[simp] theorem Block.raiseFatalAck_prevVideo : b.raiseFatalAck.prevVideo = b.prevVideo := rfl
@[simp] theorem Block.raiseFatalAck_prevSpeech : b.raiseFatalAck.prevSpeech = b.prevSpeech := rfl
@[simp] theorem Block.raiseFatalAck_irq : b.raiseFatalAck.irq = b.irq := rfl
@[simp] theorem Block.raiseFatalAck_tpRowsel : b.raiseFatalAck.tpRowsel = b.tpRowsel := rfl
@[simp] theorem Block.raiseFatalAck_tpMode : b.raiseFatalAck.tpMode = b.tpMode := rfl
@[simp] theorem Block.raiseFatalAck_tpUnused : b.raiseFatalAck.tpUnused = b.tpUnused := rfl
@[simp] theorem Block.raiseFatalAck_sampledX : b.raiseFatalAck.sampledX = b.sampledX := rfl
@[simp] theorem Block.raiseFatalAck_sampledY : b.raiseFatalAck.sampledY = b.sampledY := rfl
@[simp] theorem Block.raiseFatalAck_row : b.raiseFatalAck.row = b.row := rfl
@[simp] theorem Block.raiseFatalAck_spkMd : b.raiseFatalAck.spkMd = b.spkMd := rfl
@[simp] theorem Block.raiseFatalAck_spkBank : b.raiseFatalAck.spkBank = b.spkBank := rfl
@[simp] theorem Block.raiseFatalAck_fault :
    b.raiseFatalAck.fault =
      some { kind := if b.pending &&& b.enabled = 0#8 then .noneActive else .foreignActive, pending := b.pending, enabled := b.enabled } :=
  rfl

/-! ### The touchpad control latch (42_touchpad.md R116 to R118) -/

@[simp] theorem Block.latchTp_pending (r : TpReg) (d : Byte) : (b.latchTp r d).pending = b.pending := by cases r <;> rfl
@[simp] theorem Block.latchTp_enabled (r : TpReg) (d : Byte) : (b.latchTp r d).enabled = b.enabled := by cases r <;> rfl
@[simp] theorem Block.latchTp_vector (r : TpReg) (d : Byte) : (b.latchTp r d).vector = b.vector := by cases r <;> rfl
@[simp] theorem Block.latchTp_prevVideo (r : TpReg) (d : Byte) : (b.latchTp r d).prevVideo = b.prevVideo := by cases r <;> rfl
@[simp] theorem Block.latchTp_prevSpeech (r : TpReg) (d : Byte) : (b.latchTp r d).prevSpeech = b.prevSpeech := by cases r <;> rfl
@[simp] theorem Block.latchTp_irq (r : TpReg) (d : Byte) : (b.latchTp r d).irq = b.irq := by cases r <;> rfl
@[simp] theorem Block.latchTp_sampledX (r : TpReg) (d : Byte) : (b.latchTp r d).sampledX = b.sampledX := by cases r <;> rfl
@[simp] theorem Block.latchTp_sampledY (r : TpReg) (d : Byte) : (b.latchTp r d).sampledY = b.sampledY := by cases r <;> rfl
@[simp] theorem Block.latchTp_row (r : TpReg) (d : Byte) : (b.latchTp r d).row = b.row := by cases r <;> rfl
@[simp] theorem Block.latchTp_spkMd (r : TpReg) (d : Byte) : (b.latchTp r d).spkMd = b.spkMd := by cases r <;> rfl
@[simp] theorem Block.latchTp_spkBank (r : TpReg) (d : Byte) : (b.latchTp r d).spkBank = b.spkBank := by cases r <;> rfl
@[simp] theorem Block.latchTp_fault (r : TpReg) (d : Byte) : (b.latchTp r d).fault = b.fault := by cases r <;> rfl
@[simp] theorem Block.latchTp_tp (r other : TpReg) (d : Byte) :
    (b.latchTp r d).tp other = if other = r then d else b.tp other := by
  cases r <;> cases other <;> rfl
@[simp] theorem Block.latchTp_tpRowsel (r : TpReg) (d : Byte) : (b.latchTp r d).tpRowsel = if r = .rowsel then d else b.tpRowsel := by
  cases r <;> rfl
@[simp] theorem Block.latchTp_tpMode (r : TpReg) (d : Byte) : (b.latchTp r d).tpMode = if r = .mode then d else b.tpMode := by
  cases r <;> rfl
@[simp] theorem Block.latchTp_tpUnused (r : TpReg) (d : Byte) : (b.latchTp r d).tpUnused = if r = .unused then d else b.tpUnused := by
  cases r <;> rfl

/-! ### The touch input (42_touchpad.md R120) -/

@[simp] theorem Block.setRow_pending (r : Fin 20) (c : Row) : (b.setRow r c).pending = b.pending := rfl
@[simp] theorem Block.setRow_enabled (r : Fin 20) (c : Row) : (b.setRow r c).enabled = b.enabled := rfl
@[simp] theorem Block.setRow_vector (r : Fin 20) (c : Row) : (b.setRow r c).vector = b.vector := rfl
@[simp] theorem Block.setRow_prevVideo (r : Fin 20) (c : Row) : (b.setRow r c).prevVideo = b.prevVideo := rfl
@[simp] theorem Block.setRow_prevSpeech (r : Fin 20) (c : Row) : (b.setRow r c).prevSpeech = b.prevSpeech := rfl
@[simp] theorem Block.setRow_irq (r : Fin 20) (c : Row) : (b.setRow r c).irq = b.irq := rfl
@[simp] theorem Block.setRow_tpRowsel (r : Fin 20) (c : Row) : (b.setRow r c).tpRowsel = b.tpRowsel := rfl
@[simp] theorem Block.setRow_tpMode (r : Fin 20) (c : Row) : (b.setRow r c).tpMode = b.tpMode := rfl
@[simp] theorem Block.setRow_tpUnused (r : Fin 20) (c : Row) : (b.setRow r c).tpUnused = b.tpUnused := rfl
@[simp] theorem Block.setRow_sampledX (r : Fin 20) (c : Row) : (b.setRow r c).sampledX = b.sampledX := rfl
@[simp] theorem Block.setRow_sampledY (r : Fin 20) (c : Row) : (b.setRow r c).sampledY = b.sampledY := rfl
@[simp] theorem Block.setRow_row (r : Fin 20) (c : Row) : (b.setRow r c).row = b.row.set r.val c r.isLt := rfl
@[simp] theorem Block.setRow_spkMd (r : Fin 20) (c : Row) : (b.setRow r c).spkMd = b.spkMd := rfl
@[simp] theorem Block.setRow_spkBank (r : Fin 20) (c : Row) : (b.setRow r c).spkBank = b.spkBank := rfl
@[simp] theorem Block.setRow_fault (r : Fin 20) (c : Row) : (b.setRow r c).fault = b.fault := rfl

/-! ### The speech control write (41_dispatcher.md R102) -/

@[simp] theorem Block.speechControl_pending (p : Params) (d : Byte) : (b.speechControl p d).pending = b.pending := rfl
@[simp] theorem Block.speechControl_enabled (p : Params) (d : Byte) : (b.speechControl p d).enabled = b.enabled := rfl
@[simp] theorem Block.speechControl_vector (p : Params) (d : Byte) : (b.speechControl p d).vector = b.vector := rfl
@[simp] theorem Block.speechControl_prevVideo (p : Params) (d : Byte) : (b.speechControl p d).prevVideo = b.prevVideo := rfl
@[simp] theorem Block.speechControl_prevSpeech (p : Params) (d : Byte) : (b.speechControl p d).prevSpeech = b.prevSpeech := rfl
@[simp] theorem Block.speechControl_irq (p : Params) (d : Byte) : (b.speechControl p d).irq = b.irq := rfl
@[simp] theorem Block.speechControl_tpRowsel (p : Params) (d : Byte) : (b.speechControl p d).tpRowsel = b.tpRowsel := rfl
@[simp] theorem Block.speechControl_tpMode (p : Params) (d : Byte) : (b.speechControl p d).tpMode = b.tpMode := rfl
@[simp] theorem Block.speechControl_tpUnused (p : Params) (d : Byte) : (b.speechControl p d).tpUnused = b.tpUnused := rfl
@[simp] theorem Block.speechControl_sampledX (p : Params) (d : Byte) : (b.speechControl p d).sampledX = b.sampledX := rfl
@[simp] theorem Block.speechControl_sampledY (p : Params) (d : Byte) : (b.speechControl p d).sampledY = b.sampledY := rfl
@[simp] theorem Block.speechControl_row (p : Params) (d : Byte) : (b.speechControl p d).row = b.row := rfl
@[simp] theorem Block.speechControl_spkMd (p : Params) (d : Byte) : (b.speechControl p d).spkMd = speechModeLevel p d := rfl
@[simp] theorem Block.speechControl_spkBank (p : Params) (d : Byte) : (b.speechControl p d).spkBank = speechBankLevel p d := rfl
@[simp] theorem Block.speechControl_fault (p : Params) (d : Byte) : (b.speechControl p d).fault = b.fault := rfl

@[simp] theorem Block.prev_video : b.prev .video = b.prevVideo := rfl
@[simp] theorem Block.prev_speech : b.prev .speech = b.prevSpeech := rfl

/-! ### Updates of the whole state -/

variable (s : State)

@[simp] theorem State.mapBlock_blk (f : Block → Block) : (s.mapBlock f).blk = f s.blk := rfl
@[simp] theorem State.mapBlock_inbox (f : Block → Block) : (s.mapBlock f).io.inbox = s.io.inbox := rfl
@[simp] theorem State.mapBlock_result (f : Block → Block) : (s.mapBlock f).io.result = s.io.result := rfl
@[simp] theorem State.mapBlock_trace (f : Block → Block) : (s.mapBlock f).io.trace = s.io.trace := rfl
@[simp] theorem State.mapBlock_tick (f : Block → Block) : (s.mapBlock f).io.tick = s.io.tick := rfl
@[simp] theorem State.mapBlock_inst (f : Block → Block) : (s.mapBlock f).inst = s.inst := rfl

@[simp] theorem State.answer_blk (v : Option Byte) : (s.answer v).blk = s.blk := rfl
@[simp] theorem State.answer_inbox (v : Option Byte) : (s.answer v).io.inbox = s.io.inbox := rfl
@[simp] theorem State.answer_result (v : Option Byte) : (s.answer v).io.result = v := rfl
@[simp] theorem State.answer_trace (v : Option Byte) : (s.answer v).io.trace = s.io.trace := rfl
@[simp] theorem State.answer_tick (v : Option Byte) : (s.answer v).io.tick = s.io.tick := rfl
@[simp] theorem State.answer_inst (v : Option Byte) : (s.answer v).inst = s.inst := rfl

@[simp] theorem State.act_blk (a : Action) : (s.act a).blk = s.blk := rfl
@[simp] theorem State.act_inbox (a : Action) : (s.act a).io.inbox = s.io.inbox := rfl
@[simp] theorem State.act_result (a : Action) : (s.act a).io.result = s.io.result := rfl
@[simp] theorem State.act_trace (a : Action) : (s.act a).io.trace = a :: s.io.trace := rfl
@[simp] theorem State.act_tick (a : Action) : (s.act a).io.tick = s.io.tick := rfl
@[simp] theorem State.act_inst (a : Action) : (s.act a).inst = s.inst := rfl

@[simp] theorem State.advance_blk : s.advance.blk = s.blk := rfl
@[simp] theorem State.advance_inbox : s.advance.io.inbox = s.io.inbox := rfl
@[simp] theorem State.advance_result : s.advance.io.result = s.io.result := rfl
@[simp] theorem State.advance_trace : s.advance.io.trace = s.io.trace := rfl
@[simp] theorem State.advance_tick : s.advance.io.tick = s.io.tick + 1 := rfl
@[simp] theorem State.advance_inst : s.advance.inst = s.inst := rfl

@[simp] theorem State.forwardRead_blk (dev : Device) (off : Offset) : (s.forwardRead dev off).blk = s.blk := rfl
@[simp] theorem State.forwardRead_inbox (dev : Device) (off : Offset) : (s.forwardRead dev off).io.inbox = s.io.inbox := rfl
@[simp] theorem State.forwardRead_result (dev : Device) (off : Offset) :
    (s.forwardRead dev off).io.result = some (Config.fwdRead dev off s.io.tick) := rfl
@[simp] theorem State.forwardRead_trace (dev : Device) (off : Offset) :
    (s.forwardRead dev off).io.trace = .fwdRead dev off :: s.io.trace := rfl
@[simp] theorem State.forwardRead_tick (dev : Device) (off : Offset) : (s.forwardRead dev off).io.tick = s.io.tick + 1 := rfl
@[simp] theorem State.forwardRead_inst (dev : Device) (off : Offset) : (s.forwardRead dev off).inst = s.inst := rfl

@[simp] theorem State.forwardWrite_blk (dev : Device) (off : Offset) (d : Byte) : (s.forwardWrite dev off d).blk = s.blk := rfl
@[simp] theorem State.forwardWrite_inbox (dev : Device) (off : Offset) (d : Byte) :
    (s.forwardWrite dev off d).io.inbox = s.io.inbox := rfl
@[simp] theorem State.forwardWrite_result (dev : Device) (off : Offset) (d : Byte) :
    (s.forwardWrite dev off d).io.result = none := rfl
@[simp] theorem State.forwardWrite_trace (dev : Device) (off : Offset) (d : Byte) :
    (s.forwardWrite dev off d).io.trace = .fwdWrite dev off d :: s.io.trace := rfl
@[simp] theorem State.forwardWrite_tick (dev : Device) (off : Offset) (d : Byte) :
    (s.forwardWrite dev off d).io.tick = s.io.tick := rfl
@[simp] theorem State.forwardWrite_inst (dev : Device) (off : Offset) (d : Byte) : (s.forwardWrite dev off d).inst = s.inst := rfl

@[simp] theorem State.answerExt_blk (name : ExtName) : (s.answerExt name).blk = s.blk := rfl
@[simp] theorem State.answerExt_inbox (name : ExtName) : (s.answerExt name).io.inbox = s.io.inbox := rfl
@[simp] theorem State.answerExt_result (name : ExtName) : (s.answerExt name).io.result = some (Config.ext name s.io.tick) := rfl
@[simp] theorem State.answerExt_trace (name : ExtName) : (s.answerExt name).io.trace = s.io.trace := rfl
@[simp] theorem State.answerExt_tick (name : ExtName) : (s.answerExt name).io.tick = s.io.tick + 1 := rfl
@[simp] theorem State.answerExt_inst (name : ExtName) : (s.answerExt name).inst = s.inst := rfl

@[simp] theorem State.present_blk (w : Word) : (s.present w).blk = s.blk := rfl
@[simp] theorem State.present_inbox (w : Word) : (s.present w).io.inbox = w :: s.io.inbox := rfl
@[simp] theorem State.present_result (w : Word) : (s.present w).io.result = s.io.result := rfl
@[simp] theorem State.present_trace (w : Word) : (s.present w).io.trace = s.io.trace := rfl
@[simp] theorem State.present_tick (w : Word) : (s.present w).io.tick = s.io.tick := rfl
@[simp] theorem State.present_inst (w : Word) : (s.present w).inst = s.inst := rfl

end Sys2Proof.Machine
end

