-- ==== Sys2Proof/Laws/Ops.lean ====
section
/-! SUPPORT. One lemma for each shared operation that says once everything it can do; later proofs cite these and do not unfold the
operation. -/

namespace Sys2Proof.Machine

/-! ### The operation frame and the step -/

/-- A running block performs the operation. -/
theorem State.operate_running {s : State} (h : s.blk.fault = none) (k : State → State) : s.operate k = .next (k s) := by
  simp [State.operate, h]

/-- A faulted block performs none (60_exceptions.md R134). -/
theorem State.operate_faulted {s : State} {r : FatalAck} (h : s.blk.fault = some r) (k : State → State) :
    s.operate k = .fault (.fatalAck r) := by
  simp [State.operate, h]

/-- An operation that answers a next state ran on a running block, and this is its state. -/
theorem State.operate_eq_next {s t : State} {k : State → State} (h : s.operate k = .next t) :
    s.blk.fault = none ∧ t = k s := by
  cases hf : s.blk.fault with
  | none => rw [operate_running hf] at h; exact ⟨rfl, by injection h with h; exact h.symm⟩
  | some r => rw [operate_faulted hf] at h; cases h

/-- Every meaning is one operation: it answers a next state, and that state is one function of the state. -/
theorem exec_eq_operate (i : Instr) : ∃ k : State → State, ∀ s, exec i s = s.operate k := by
  cases i <;> exact ⟨_, fun _ => rfl⟩

/-- What one step can do when it answers a next state: nothing was presented and nothing changed, or the presented word was decoded and its
operation performed on the state with the word taken. -/
theorem step_cases {s t : State} (h : step s = .next t) :
    s.blk.fault = none ∧
      ((s.io.inbox = [] ∧ t = s) ∨
        ∃ w rest i, s.io.inbox = w :: rest ∧ decode s.params w = .ok i ∧
          exec i { s with io := { s.io with inbox := rest } } = .next t) := by
  unfold step at h
  split at h
  · cases h
  · rename_i hf
    refine ⟨hf, ?_⟩
    cases hi : s.io.inbox with
    | nil =>
      simp only [State.fetch, hi] at h
      injection h with h
      exact .inl ⟨rfl, h.symm⟩
    | cons w rest =>
      simp only [State.fetch, hi] at h
      split at h
      · rename_i i hd
        exact .inr ⟨w, rest, i, rfl, hd, h⟩
      · cases h

/-! ### Latch and arbiter -/

/-- The pending mask after a signal callback, bit by bit (40_interrupt.md R79, R80). -/
theorem Block.bitAt_signalEdge_pending (p : Params) (src : Source) (l : Bool) (b : Block) (i : Fin 8) :
    bitAt (b.signalEdge p src l).pending i = ((l && !b.prev src && decide (src.bit p = i)) || bitAt b.pending i) := by
  rw [Block.signalEdge_pending]
  by_cases hr : (l && !b.prev src) = true
  · rw [if_pos hr, bitAt_putBit, hr]
    by_cases h : src.bit p = i <;> simp [h]
  · rw [if_neg hr]
    simp only [Bool.not_eq_true] at hr
    simp [hr]

/-- The source an acknowledge chooses (40_interrupt.md R84, R90). -/
theorem Block.chosenSource_cases (p : Params) (b : Block) :
    (b.chosenSource p = some .video ∧ bitAt b.pending (Source.video.bit p) = true ∧ bitAt b.enabled (Source.video.bit p) = true) ∨
    (b.chosenSource p = some .speech ∧ bitAt (b.pending &&& b.enabled) (Source.video.bit p) = false ∧
      bitAt b.pending (Source.speech.bit p) = true ∧ bitAt b.enabled (Source.speech.bit p) = true) ∨
    (b.chosenSource p = none ∧ bitAt (b.pending &&& b.enabled) (Source.video.bit p) = false ∧
      bitAt (b.pending &&& b.enabled) (Source.speech.bit p) = false) := by
  unfold Block.chosenSource
  by_cases hv : bitAt (b.pending &&& b.enabled) (Source.video.bit p) = true
  · exact .inl ⟨if_pos hv, by simpa using hv⟩
  · rw [if_neg hv]
    by_cases hs : bitAt (b.pending &&& b.enabled) (Source.speech.bit p) = true
    · exact .inr (.inl ⟨if_pos hs, by simpa using hv, by simpa using hs⟩)
    · exact .inr (.inr ⟨if_neg hs, by simpa using hv, by simpa using hs⟩)

/-- acknowledge either serves the chosen source and returns its vector, or takes the fatal acknowledge and returns nothing
(40_interrupt.md R84, 60_exceptions.md R133). -/
theorem Block.acknowledge_cases (p : Params) (b : Block) :
    (∃ src, b.chosenSource p = some src ∧ b.acknowledge p = (b.serve p src, some src.vector)) ∨
      (b.chosenSource p = none ∧ b.acknowledge p = (b.raiseFatalAck, none)) := by
  unfold Block.acknowledge
  cases b.chosenSource p with
  | some src => exact .inl ⟨src, rfl, rfl⟩
  | none => exact .inr ⟨rfl, rfl⟩

/-- The enabled mask after writeSelect, bit by bit (40_interrupt.md R82). -/
theorem Block.bitAt_writeSelect_enabled (d : Byte) (b : Block) (i : Fin 8) :
    bitAt (b.writeSelect d).enabled i = if pinIndex d = i then selectSets d else bitAt b.enabled i := by
  rw [Block.writeSelect_enabled, bitAt_putBit]

/-! ### The scan -/

/-- In an ascending search the element found satisfies the test and no smaller one does. -/
theorem find_finRange_eq_some {n : Nat} {q : Fin n → Bool} {i : Fin n} :
    (List.finRange n).find? q = some i ↔ q i = true ∧ ∀ j, j < i → q j = false := by
  rw [List.find?_eq_some_iff_getElem]
  constructor
  · rintro ⟨hq, k, hk, hki, hmin⟩
    refine ⟨hq, fun j hj => ?_⟩
    have hk' : k = i.val := by
      have := congrArg Fin.val hki
      simpa using this
    have := hmin j.val (by rw [hk']; exact hj)
    simpa using this
  · rintro ⟨hq, hmin⟩
    refine ⟨hq, i.val, by simp, by simp, fun j hj => ?_⟩
    have := hmin ⟨j, by omega⟩ hj
    simpa using this

/-- `lowbit` (00_scope.md R9): the lowest set bit. -/
theorem lowbit_eq_some {v : Row} {c : Fin 24} :
    lowbit v = some c ↔ v.getLsbD c.val = true ∧ ∀ j : Fin 24, j < c → v.getLsbD j.val = false :=
  find_finRange_eq_some

/-- `lowbit` has no value only at 0. -/
theorem lowbit_eq_none {v : Row} : lowbit v = none ↔ v = 0#24 := by
  rw [lowbit, List.find?_eq_none]
  constructor
  · intro h
    exact BitVec.eq_of_getLsbD_eq fun i hi => by simpa using h ⟨i, hi⟩ (List.mem_finRange _)
  · rintro rfl c _
    simp

/-- The cell a scan reports is the lowest touched row, then its lowest touched column (42_touchpad.md R127). -/
theorem firstTouched_eq_some {rows : Vector Row 20} {r : Fin 20} {c : Fin 24} :
    firstTouched rows = some (r, c) ↔
      rows[r].getLsbD c.val = true ∧ (∀ j : Fin 20, j < r → rows[j] = 0#24) ∧
        ∀ j : Fin 24, j < c → rows[r].getLsbD j.val = false := by
  have hrow : firstTouchedRow rows = some r ↔ rows[r] ≠ 0#24 ∧ ∀ j : Fin 20, j < r → rows[j] = 0#24 := by
    rw [firstTouchedRow, find_finRange_eq_some]
    simp
  constructor
  · intro h
    unfold firstTouched at h
    split at h
    · rename_i r' hr'
      rw [Option.map_eq_some_iff] at h
      obtain ⟨c', hc', he⟩ := h
      injection he with h1 h2
      subst h1; subst h2
      obtain ⟨hb, hlow⟩ := lowbit_eq_some.mp hc'
      exact ⟨hb, (hrow.mp hr').2, hlow⟩
    · cases h
  · rintro ⟨hb, hrows, hlow⟩
    have hne : rows[r] ≠ 0#24 := by intro h0; simp [h0] at hb
    rw [firstTouched, hrow.mpr ⟨hne, hrows⟩, Option.map_eq_some_iff]
    exact ⟨c, lowbit_eq_some.mpr ⟨hb, hlow⟩, rfl⟩

/-- A scan finds nothing exactly when no row has a set bit (42_touchpad.md R121). -/
theorem firstTouched_eq_none {rows : Vector Row 20} : firstTouched rows = none ↔ ∀ r : Fin 20, rows[r] = 0#24 := by
  unfold firstTouched
  split
  · rename_i r hr
    rw [firstTouchedRow, find_finRange_eq_some] at hr
    have hne : rows[r] ≠ 0#24 := by simpa using hr.1
    rw [Option.map_eq_none_iff, lowbit_eq_none]
    exact ⟨fun h => absurd h hne, fun h => h r⟩
  · rename_i hr
    rw [firstTouchedRow, List.find?_eq_none] at hr
    exact ⟨fun _ r => by simpa using hr r (List.mem_finRange _), fun _ => rfl⟩

/-- isPressed either reports the lowest touched cell, or finds nothing and changes nothing (42_touchpad.md R121, R124). -/
theorem Block.isPressed_cases (p : Params) (b : Block) :
    (∃ r c, firstTouched b.row = some (r, c) ∧
        b.isPressed p = ({ b with sampledX := p.xtab[c], sampledY := p.ytab[r] }, true)) ∨
      (firstTouched b.row = none ∧ b.isPressed p = (b, false)) := by
  unfold Block.isPressed
  cases h : firstTouched b.row with
  | some rc => exact .inl ⟨rc.1, rc.2, rfl, rfl⟩
  | none => exact .inr ⟨rfl, rfl⟩

/-- A port-B sample scans exactly when scanning is enabled (42_touchpad.md R125). -/
theorem Block.samplePortB_cases (p : Params) (tape : Byte) (b : Block) :
    (b.scanEnable p = true ∧ b.samplePortB p tape = ((b.isPressed p).1, portBScanning p tape (b.isPressed p).2)) ∨
      (b.scanEnable p = false ∧ b.samplePortB p tape = (b, portBIdle p tape)) := by
  unfold Block.samplePortB
  cases h : b.scanEnable p with
  | true => exact .inl ⟨rfl, by simp⟩
  | false => exact .inr ⟨rfl, by simp⟩

/-- The bits of the port-B value while scanning (42_touchpad.md R125, R126). -/
theorem bitAt_portBScanning (p : Params) (tape : Byte) (pressed : Bool) (i : Fin 8) :
    bitAt (portBScanning p tape pressed) i =
      if p.pbPressBit = i then !pressed else if p.pbAvailBit = i then false else bitAt tape i := by
  rw [portBScanning, bitAt_putBit, bitAt_putBit]

/-- The bits of the port-B value while scanning is disabled (42_touchpad.md R125, R126). -/
theorem bitAt_portBIdle (p : Params) (tape : Byte) (i : Fin 8) :
    bitAt (portBIdle p tape) i =
      if p.pbPressBit = i then false else if p.pbAvailBit = i then true else bitAt tape i := by
  rw [portBIdle, bitAt_putBit, bitAt_putBit]

/-- A read of the coordinate register depends on nothing but column-select and the two latches (42_touchpad.md R122). -/
theorem Block.readCoordinate_eq (p : Params) (b : Block) :
    b.readCoordinate p = if b.tp p.cselReg &&& p.cselMask ≠ 0#8 then b.sampledY else b.sampledX := by
  simp [Block.readCoordinate, Block.columnSelect]

end Sys2Proof.Machine
end

