-- ==== Sys2Proof/Laws/Exec.lean ====
section
/-! SUPPORT. What performing an operation does to each part of the state, said once over all operations: the inversion lemmas that a proof about
every step cites. -/

namespace Sys2Proof.Machine

/-- The effect of an operation on the block, as one of the shared operations; `tape` is the environment's port-B byte. -/
def blockEffect (p : Params) (tape : Byte) (b : Block) : Instr → Block
  | .edgeVideo l => b.signalEdge p .video l
  | .edgeSpeech l => b.signalEdge p .speech l
  | .iowIntEnable d => b.writeEnable d
  | .iowIntSelect d => b.writeSelect d
  | .inta => (b.acknowledge p).1
  | .iowSpkctl d => b.speechControl p d
  | .iowTpRowsel d => b.latchTp .rowsel d
  | .iowTpMode d => b.latchTp .mode d
  | .iowTpUnused d => b.latchTp .unused d
  | .row r c => b.setRow r c
  | .pbin => (b.samplePortB p tape).1
  | .iorVdp _ | .iowVdp _ _ | .iorPpi _ | .iowPpi _ _ | .iorSio _ | .iowSio _ _ | .iorUnmapped0A | .iowUnid0A _
  | .iorSpkctl | .iorPsg | .iowPsg _ | .iorUnmapped0E0F _ | .iowUnid0E0F _ _ | .iorSpkdata _ | .iowSpkdata _ _
  | .iorUnmapped1F | .iowUnid1F _ | .iorExp _ | .iowExp _ _ | .iorUnmapped407F _ | .iorUnmapped80FF _
  | .iowUnmapped407F _ _ | .iowUnmapped80FF _ _ | .iorIntEnable | .iorIntSelect | .iorTpCoord | .iorTpCtrl _
  | .iorUnmappedFree _ | .iowUnmappedFree _ _ | .edgeBusy _ | .pain | .pcin | .pcout _ => b

/-- Every operation is one atomic change: it keeps the instantiation and the words still waiting, and changes the block by its effect alone. -/
theorem exec_eq_operate_effect (i : Instr) : ∃ k : State → State, (∀ s, exec i s = s.operate k) ∧
    ∀ s, (k s).inst = s.inst ∧ (k s).io.inbox = s.io.inbox ∧
      (k s).blk = blockEffect s.params (Config.ext .tapeBits s.io.tick) s.blk i := by
  cases i <;> exact ⟨_, fun _ => rfl, fun _ => ⟨rfl, rfl, rfl⟩⟩

/-- An operation that answers a next state ran on a running block; the instantiation and the words still waiting stay, and the block is changed by the
operation's effect alone. -/
theorem exec_next {i : Instr} {s t : State} (h : exec i s = .next t) :
    s.blk.fault = none ∧ t.inst = s.inst ∧ t.io.inbox = s.io.inbox ∧
      t.blk = blockEffect s.params (Config.ext .tapeBits s.io.tick) s.blk i := by
  obtain ⟨k, hk, he⟩ := exec_eq_operate_effect i
  rw [hk] at h
  obtain ⟨hf, rfl⟩ := State.operate_eq_next h
  exact ⟨hf, he s⟩

/-- On a running block every operation answers a next state, whose block is the old one changed by the operation's effect (00_scope.md R11). -/
theorem exec_running {s : State} (h : s.blk.fault = none) (i : Instr) :
    ∃ t, exec i s = .next t ∧ t.blk = blockEffect s.params (Config.ext .tapeBits s.io.tick) s.blk i := by
  obtain ⟨k, hk, he⟩ := exec_eq_operate_effect i
  exact ⟨k s, by rw [hk, State.operate_running h], (he s).2.2⟩

/-- The operation of the next step, read off the head of the presented words. -/
theorem nextOperation_eq_some {s : State} {w : Word} {rest : List Word} {i : Instr} (hi : s.io.inbox = w :: rest)
    (hd : decode s.params w = .ok i) : s.nextOperation = some i := by
  simp [State.nextOperation, State.fetch, hi, hd, Except.toOption]

/-- The block after an operation: as it was, or one of the eleven operations that change it has changed it by its shared operation. -/
theorem blockEffect_cases (p : Params) (tape : Byte) (b : Block) (i : Instr) :
    blockEffect p tape b i = b ∨
      (∃ l, i = .edgeVideo l ∧ blockEffect p tape b i = b.signalEdge p .video l) ∨
      (∃ l, i = .edgeSpeech l ∧ blockEffect p tape b i = b.signalEdge p .speech l) ∨
      (∃ d, i = .iowIntEnable d ∧ blockEffect p tape b i = b.writeEnable d) ∨
      (∃ d, i = .iowIntSelect d ∧ blockEffect p tape b i = b.writeSelect d) ∨
      (i = .inta ∧ blockEffect p tape b i = (b.acknowledge p).1) ∨
      (∃ d, i = .iowSpkctl d ∧ blockEffect p tape b i = b.speechControl p d) ∨
      (∃ r d, (i = .iowTpRowsel d ∨ i = .iowTpMode d ∨ i = .iowTpUnused d) ∧ blockEffect p tape b i = b.latchTp r d) ∨
      (∃ r c, i = .row r c ∧ blockEffect p tape b i = b.setRow r c) ∨
      (i = .pbin ∧ blockEffect p tape b i = (b.samplePortB p tape).1) := by
  cases i with
  | edgeVideo l => exact .inr (.inl ⟨l, rfl, rfl⟩)
  | edgeSpeech l => exact .inr (.inr (.inl ⟨l, rfl, rfl⟩))
  | iowIntEnable d => exact .inr (.inr (.inr (.inl ⟨d, rfl, rfl⟩)))
  | iowIntSelect d => exact .inr (.inr (.inr (.inr (.inl ⟨d, rfl, rfl⟩))))
  | inta => exact .inr (.inr (.inr (.inr (.inr (.inl ⟨rfl, rfl⟩)))))
  | iowSpkctl d => exact .inr (.inr (.inr (.inr (.inr (.inr (.inl ⟨d, rfl, rfl⟩))))))
  | iowTpRowsel d => exact .inr (.inr (.inr (.inr (.inr (.inr (.inr (.inl ⟨.rowsel, d, .inl rfl, rfl⟩)))))))
  | iowTpMode d => exact .inr (.inr (.inr (.inr (.inr (.inr (.inr (.inl ⟨.mode, d, .inr (.inl rfl), rfl⟩)))))))
  | iowTpUnused d => exact .inr (.inr (.inr (.inr (.inr (.inr (.inr (.inl ⟨.unused, d, .inr (.inr rfl), rfl⟩)))))))
  | row r c => exact .inr (.inr (.inr (.inr (.inr (.inr (.inr (.inr (.inl ⟨r, c, rfl, rfl⟩))))))))
  | pbin => exact .inr (.inr (.inr (.inr (.inr (.inr (.inr (.inr (.inr ⟨rfl, rfl⟩))))))))
  | _ => exact .inl rfl

/-- What a step does when it answers a next state: nothing, where nothing was presented, or the effect of the next operation on the block, with the word
taken. -/
theorem step_next {s t : State} (h : step s = .next t) :
    s.blk.fault = none ∧ t.inst = s.inst ∧ t.io.inbox = s.io.inbox.drop 1 ∧
      ((s.io.inbox = [] ∧ t = s) ∨
        ∃ i, s.nextOperation = some i ∧
          t.blk = blockEffect s.params (Config.ext .tapeBits s.io.tick) s.blk i) := by
  obtain ⟨hf, ⟨hi, rfl⟩ | ⟨w, rest, i, hi, hd, he⟩⟩ := step_cases h
  · exact ⟨hf, rfl, by simp [hi], .inl ⟨hi, rfl⟩⟩
  · obtain ⟨_, hinst, hin, hb⟩ := exec_next he
    exact ⟨hf, hinst, by simp [hin, hi], .inr ⟨i, nextOperation_eq_some hi hd, hb⟩⟩

/-- A port-B sample leaves the interrupt part of the block (42_touchpad.md R125). -/
theorem samplePortB_interruptPart (p : Params) (tape : Byte) (b : Block) :
    (b.samplePortB p tape).1.interruptPart = b.interruptPart := by
  rcases b.samplePortB_cases p tape with ⟨_, h⟩ | ⟨_, h⟩
  · rw [h]
    rcases b.isPressed_cases p with ⟨r, c, _, h'⟩ | ⟨_, h'⟩ <;> rw [h']
    rfl
  · rw [h]

/-- An acknowledge leaves the touchpad part of the block (40_interrupt.md R84). -/
theorem acknowledge_touchpadPart (p : Params) (b : Block) : (b.acknowledge p).1.touchpadPart = b.touchpadPart := by
  rcases b.acknowledge_cases p with ⟨src, _, h⟩ | ⟨_, h⟩ <;> rw [h] <;> rfl

/-- An acknowledge on a running block answers the arbiter's block and returns what the arbiter returns. -/
theorem exec_inta {s : State} (h : s.blk.fault = none) :
    exec .inta s = .next { s with
      blk := (s.blk.acknowledge s.params).1
      io := { s.io with result := (s.blk.acknowledge s.params).2 } } := by
  rw [exec, execInta, State.operate_running h]
  rfl

/-- A run that answers a next state took a first step that did, and runs on from there. -/
theorem run_succ {k : Nat} {s t : State} (h : run (k + 1) s = .next t) : ∃ s', step s = .next s' ∧ run k s' = .next t := by
  rw [run] at h
  split at h
  · rename_i s' hs
    exact ⟨s', hs, h⟩
  · cases h
  · cases h

/-- A step that answers a next state begins a run. -/
theorem run_step {s s' : State} (k : Nat) (h : step s = .next s') : run (k + 1) s = run k s' := by
  rw [run, h]

/-- The bit of the speech source is not the video source's (00_scope.md R8 (e)). -/
theorem speechBit_ne_zero (c : Instantiation) : c.params.speechBit ≠ 0 := by
  have h := c.obeys
  simp only [Params.valid, Bool.and_eq_true, decide_eq_true_eq, bne_iff_ne, ne_eq] at h
  tauto

/-- The two sources have different bits. -/
theorem bit_injective (c : Instantiation) {a b : Source} (h : a.bit c.params = b.bit c.params) : a = b := by
  have hs := speechBit_ne_zero c
  cases a <;> cases b <;> simp_all [Source.bit, Config.videoBit, eq_comm]

end Sys2Proof.Machine
end

