-- ==== Sys2Proof/Laws/PerInstr.lean ====
section
/-! SUPPORT. The statements made of every operation as syntax, one lemma per constructor. -/

namespace Sys2Proof.Laws

/-- The class field of an operation's word is the code of its class (30_encoding.md R61, R62). -/
def ClassField.Statement (i : Instr) : Prop := ∀ p : Params, classField (encode p i) = i.opClass.code

theorem ClassField.iorVdp (off : BitVec 2) : ClassField.Statement (.iorVdp off) := fun _ => classField_iorWord _
theorem ClassField.iowVdp (off : BitVec 2) (d : Byte) : ClassField.Statement (.iowVdp off d) := fun _ => classField_iowWord _ _
theorem ClassField.iorPpi (off : BitVec 2) : ClassField.Statement (.iorPpi off) := fun _ => classField_iorWord _
theorem ClassField.iowPpi (off : BitVec 2) (d : Byte) : ClassField.Statement (.iowPpi off d) := fun _ => classField_iowWord _ _
theorem ClassField.iorSio (off : BitVec 1) : ClassField.Statement (.iorSio off) := fun _ => classField_iorWord _
theorem ClassField.iowSio (off : BitVec 1) (d : Byte) : ClassField.Statement (.iowSio off d) := fun _ => classField_iowWord _ _
theorem ClassField.iorUnmapped0A : ClassField.Statement (.iorUnmapped0A) := fun _ => classField_iorWord _
theorem ClassField.iowUnid0A (d : Byte) : ClassField.Statement (.iowUnid0A d) := fun _ => classField_iowWord _ _
theorem ClassField.iorSpkctl : ClassField.Statement (.iorSpkctl) := fun _ => classField_iorWord _
theorem ClassField.iowSpkctl (d : Byte) : ClassField.Statement (.iowSpkctl d) := fun _ => classField_iowWord _ _
theorem ClassField.iorPsg : ClassField.Statement (.iorPsg) := fun _ => classField_iorWord _
theorem ClassField.iowPsg (d : Byte) : ClassField.Statement (.iowPsg d) := fun _ => classField_iowWord _ _
theorem ClassField.iorUnmapped0E0F (off : BitVec 1) : ClassField.Statement (.iorUnmapped0E0F off) := fun _ => classField_iorWord _
theorem ClassField.iowUnid0E0F (off : BitVec 1) (d : Byte) : ClassField.Statement (.iowUnid0E0F off d) := fun _ => classField_iowWord _ _
theorem ClassField.iorSpkdata (mirror : BitVec 1) : ClassField.Statement (.iorSpkdata mirror) := fun _ => classField_iorWord _
theorem ClassField.iowSpkdata (mirror : BitVec 1) (d : Byte) : ClassField.Statement (.iowSpkdata mirror d) := fun _ => classField_iowWord _ _
theorem ClassField.iorUnmapped1F : ClassField.Statement (.iorUnmapped1F) := fun _ => classField_iorWord _
theorem ClassField.iowUnid1F (d : Byte) : ClassField.Statement (.iowUnid1F d) := fun _ => classField_iowWord _ _
theorem ClassField.iorExp (off : BitVec 5) : ClassField.Statement (.iorExp off) := fun _ => classField_iorWord _
theorem ClassField.iowExp (off : BitVec 5) (d : Byte) : ClassField.Statement (.iowExp off d) := fun _ => classField_iowWord _ _
theorem ClassField.iorUnmapped407F (off : BitVec 6) : ClassField.Statement (.iorUnmapped407F off) := fun _ => classField_iorWord _
theorem ClassField.iorUnmapped80FF (off : BitVec 7) : ClassField.Statement (.iorUnmapped80FF off) := fun _ => classField_iorWord _
theorem ClassField.iowUnmapped407F (off : BitVec 6) (d : Byte) : ClassField.Statement (.iowUnmapped407F off d) := fun _ => classField_iowWord _ _
theorem ClassField.iowUnmapped80FF (off : BitVec 7) (d : Byte) : ClassField.Statement (.iowUnmapped80FF off d) := fun _ => classField_iowWord _ _
theorem ClassField.iowIntEnable (d : Byte) : ClassField.Statement (.iowIntEnable d) := fun _ => classField_iowWord _ _
theorem ClassField.iorIntEnable : ClassField.Statement (.iorIntEnable) := fun _ => classField_iorWord _
theorem ClassField.iowIntSelect (d : Byte) : ClassField.Statement (.iowIntSelect d) := fun _ => classField_iowWord _ _
theorem ClassField.iorIntSelect : ClassField.Statement (.iorIntSelect) := fun _ => classField_iorWord _
theorem ClassField.iowTpRowsel (d : Byte) : ClassField.Statement (.iowTpRowsel d) := fun _ => classField_iowWord _ _
theorem ClassField.iowTpMode (d : Byte) : ClassField.Statement (.iowTpMode d) := fun _ => classField_iowWord _ _
theorem ClassField.iowTpUnused (d : Byte) : ClassField.Statement (.iowTpUnused d) := fun _ => classField_iowWord _ _
theorem ClassField.iorTpCoord : ClassField.Statement (.iorTpCoord) := fun _ => classField_iorWord _
theorem ClassField.iorTpCtrl (r : TpReg) : ClassField.Statement (.iorTpCtrl r) := fun _ => classField_iorWord _
theorem ClassField.iorUnmappedFree (a : Port) : ClassField.Statement (.iorUnmappedFree a) := fun _ => classField_iorWord _
theorem ClassField.iowUnmappedFree (a : Port) (d : Byte) : ClassField.Statement (.iowUnmappedFree a d) := fun _ => classField_iowWord _ _
theorem ClassField.edgeVideo (l : Bool) : ClassField.Statement (.edgeVideo l) := fun _ => classField_edgeWord _ _
theorem ClassField.edgeSpeech (l : Bool) : ClassField.Statement (.edgeSpeech l) := fun _ => classField_edgeWord _ _
theorem ClassField.edgeBusy (l : Bool) : ClassField.Statement (.edgeBusy l) := fun _ => classField_edgeWord _ _
theorem ClassField.inta : ClassField.Statement (.inta) := fun _ => classField_bareWord _
theorem ClassField.row (r : Fin 20) (c : Row) : ClassField.Statement (.row r c) := fun _ => classField_rowWord _ _
theorem ClassField.pbin : ClassField.Statement (.pbin) := fun _ => classField_bareWord _
theorem ClassField.pain : ClassField.Statement (.pain) := fun _ => classField_bareWord _
theorem ClassField.pcin : ClassField.Statement (.pcin) := fun _ => classField_pcWord _ _
theorem ClassField.pcout (d : Byte) : ClassField.Statement (.pcout d) := fun _ => classField_pcWord _ _

end Sys2Proof.Laws
end

