-- ==== Sys2Proof/Tests/Slice0.lean ====
section
/-! SUPPORT. Tests. Words and expected values are those of 95_test_vectors.md (its row is named in each comment), under the test instantiation T1 of
92_eei_decisions.md D25. The last part shows, for each statement with hypotheses, a state that meets them. -/

namespace Sys2Proof.Tests

open Sys2Proof.Machine

/-! ## Helpers -/

/-- The reset state under T1. -/
def t1State : State := { blk := Block.reset, io := Boundary.reset, inst := { params := Params.t1 } }

/-- The reset state under T1 with these masks. -/
def masks (pending enabled : Byte) : State :=
  { t1State with blk := { t1State.blk with pending := pending, enabled := enabled, irq := lineLevel pending enabled } }

/-- Scanning enabled under T1 (`SCAN_REG = ROWSEL`, `SCAN_MASK = 0x80`), coordinates 5 and 6, one row set. -/
def scanning (r : Fin 20) (c : Row) : State :=
  { t1State with blk := { t1State.blk with tpRowsel := 0x80, sampledX := 5, sampledY := 6, row := t1State.blk.row.set r c } }

/-- A faulted block. -/
def faulted : State := { t1State with blk := { t1State.blk with fault := some ⟨.noneActive, 0x00, 0x00⟩ } }

/-- The state after one step that is given a word. -/
def after (s : State) (w : Word) : Option State :=
  match step (s.present w) with
  | .next t => some t
  | _ => none

/-- A field of the block after one step that is given a word. -/
def blkAfter {α : Type} (s : State) (w : Word) (f : Block → α) : Option α := (after s w).map fun t => f t.blk

/-! ## WellFormed refuses each ill-formed term -/

theorem test_tpCtrl_at_coordinate_port_is_ill_formed : (Instr.iorTpCtrl .mode).wellFormed Params.t1 = false := by decide
theorem test_tpCtrl_elsewhere_is_well_formed : (Instr.iorTpCtrl .rowsel).wellFormed Params.t1 = true := by decide
theorem test_free_read_outside_free_is_ill_formed : (Instr.iorUnmappedFree 0x0C).wellFormed Params.t1 = false := by decide
theorem test_free_read_at_taken_port_is_ill_formed : (Instr.iorUnmappedFree 0x10).wellFormed Params.t1 = false := by decide
theorem test_free_write_outside_free_is_ill_formed : (Instr.iowUnmappedFree 0x1F 0).wellFormed Params.t1 = false := by decide
theorem test_free_write_at_taken_port_is_ill_formed : (Instr.iowUnmappedFree 0x18 0).wellFormed Params.t1 = false := by decide

/-- 00_scope.md R8 (e): a speech bit of 0 is refused. -/
theorem test_bad_speech_bit_is_refused : Instantiation.ofParams? { Params.t1 with speechBit := 0 } = none := by decide
/-- 00_scope.md R8 (a): two control ports at one address are refused. -/
theorem test_shared_write_port_is_refused : Instantiation.ofParams? { Params.t1 with pTpMode := 0x10 } = none := by decide
/-- 00_scope.md R8 (d): a two-bit mask is refused. -/
theorem test_two_bit_mask_is_refused : Instantiation.ofParams? { Params.t1 with scanMask := 0x81 } = none := by decide

/-! ## Decoding: a word of every constructor, from 30_encoding.md R63 to R70 and R76 -/

theorem test_decode_windows :
    decode Params.t1 0x00000200 = .ok (.iorVdp 2) ∧ decode Params.t1 0x20000380 = .ok (.iowVdp 3 0x80) ∧
    decode Params.t1 0x00000500 = .ok (.iorPpi 1) ∧ decode Params.t1 0x20000792 = .ok (.iowPpi 3 0x92) ∧
    decode Params.t1 0x00000900 = .ok (.iorSio 1) ∧ decode Params.t1 0x20000841 = .ok (.iowSio 0 0x41) ∧
    decode Params.t1 0x00003F00 = .ok (.iorExp 31) ∧ decode Params.t1 0x200025AA = .ok (.iowExp 5 0xAA) :=
  ⟨rfl, rfl, rfl, rfl, rfl, rfl, rfl, rfl⟩

theorem test_decode_speech_and_sound :
    decode Params.t1 0x00000B00 = .ok .iorSpkctl ∧ decode Params.t1 0x20000B02 = .ok (.iowSpkctl 0x02) ∧
    decode Params.t1 0x00000C00 = .ok .iorPsg ∧ decode Params.t1 0x20000C9F = .ok (.iowPsg 0x9F) ∧
    decode Params.t1 0x00001400 = .ok (.iorSpkdata 0) ∧ decode Params.t1 0x20001507 = .ok (.iowSpkdata 1 0x07) :=
  ⟨rfl, rfl, rfl, rfl, rfl, rfl⟩

theorem test_decode_unmapped_reads :
    decode Params.t1 0x00000A00 = .ok .iorUnmapped0A ∧ decode Params.t1 0x00000E00 = .ok (.iorUnmapped0E0F 0) ∧
    decode Params.t1 0x00001F00 = .ok .iorUnmapped1F ∧ decode Params.t1 0x00004000 = .ok (.iorUnmapped407F 0) ∧
    decode Params.t1 0x0000FF00 = .ok (.iorUnmapped80FF 0x7F) ∧ decode Params.t1 0x00000D00 = .ok (.iorUnmappedFree 0x0D) :=
  ⟨rfl, rfl, rfl, rfl, rfl, rfl⟩

theorem test_decode_unidentified_and_unmapped_writes :
    decode Params.t1 0x20000A55 = .ok (.iowUnid0A 0x55) ∧ decode Params.t1 0x20000F55 = .ok (.iowUnid0E0F 1 0x55) ∧
    decode Params.t1 0x20001F00 = .ok (.iowUnid1F 0x00) ∧ decode Params.t1 0x20007F01 = .ok (.iowUnmapped407F 0x3F 0x01) ∧
    decode Params.t1 0x20008001 = .ok (.iowUnmapped80FF 0 0x01) ∧
    decode Params.t1 0x20001B01 = .ok (.iowUnmappedFree 0x1B 0x01) :=
  ⟨rfl, rfl, rfl, rfl, rfl, rfl⟩

theorem test_decode_parameter_ports :
    decode Params.t1 0x200010A5 = .ok (.iowIntEnable 0xA5) ∧ decode Params.t1 0x00001000 = .ok .iorIntEnable ∧
    decode Params.t1 0x20001107 = .ok (.iowIntSelect 0x07) ∧ decode Params.t1 0x00001100 = .ok .iorIntSelect ∧
    decode Params.t1 0x20001880 = .ok (.iowTpRowsel 0x80) ∧ decode Params.t1 0x20001901 = .ok (.iowTpMode 0x01) ∧
    decode Params.t1 0x20001AFF = .ok (.iowTpUnused 0xFF) ∧ decode Params.t1 0x00001900 = .ok .iorTpCoord ∧
    decode Params.t1 0x00001800 = .ok (.iorTpCtrl .rowsel) ∧ decode Params.t1 0x00001A00 = .ok (.iorTpCtrl .unused) :=
  ⟨rfl, rfl, rfl, rfl, rfl, rfl, rfl, rfl, rfl, rfl⟩

theorem test_decode_callbacks :
    decode Params.t1 0x40000001 = .ok (.edgeVideo true) ∧ decode Params.t1 0x40000101 = .ok (.edgeSpeech true) ∧
    decode Params.t1 0x40000200 = .ok (.edgeBusy false) ∧ decode Params.t1 0x60000000 = .ok .inta ∧
    decode Params.t1 0x93800000 = .ok (.row 19 0x800000) ∧ decode Params.t1 0xA0000000 = .ok .pbin ∧
    decode Params.t1 0xC0000000 = .ok .pain ∧ decode Params.t1 0xE0000000 = .ok .pcin ∧
    decode Params.t1 0xE00001FF = .ok (.pcout 0xFF) :=
  ⟨rfl, rfl, rfl, rfl, rfl, rfl, rfl, rfl, rfl⟩

theorem test_decode_refuses_reserved :
    decode Params.t1 0x00001F01 = .error .reservedBits ∧ decode Params.t1 0x20010C9F = .error .reservedBits ∧
    decode Params.t1 0x40000301 = .error .reservedSource ∧ decode Params.t1 0x40000003 = .error .reservedBits ∧
    decode Params.t1 0x60000001 = .error .reservedBits ∧ decode Params.t1 0x94000001 = .error .reservedRow ∧
    decode Params.t1 0xE0000001 = .error .reservedBits ∧ decode Params.t1 0xE0000201 = .error .reservedBits :=
  ⟨rfl, rfl, rfl, rfl, rfl, rfl, rfl, rfl⟩

/-- The words of fixed ports decode whatever the hardware's own parameters are. -/
theorem test_decodeTableWord_fixed_port : decodeTableWord 32 0x20000C9F = some (.iowPsg 0x9F) := by decide
/-- A number that needs more than 32 bits spells no operation (30_encoding.md R75). -/
theorem test_decodeTableWord_wide : decodeTableWord 64 0x160000000 = none := by decide

theorem test_encode_free_port : encode Params.t1 (.iowUnmappedFree 0x1B 0x01) = 0x20001B01 := by decide
theorem test_encode_row : encode Params.t1 (.row 19 0x800000) = 0x93800000 := by decide
/-- 30_encoding.md R76, SETEN and CLREN (P5 of 95_test_vectors.md). -/
theorem test_pseudo_seten : pseudoSeten 5 = .iowIntSelect 0x0B ∧ pseudoClren 6 = .iowIntSelect 0x0C := by decide

/-! ## Latch: E1 to E10 -/

/-- E5. -/
theorem test_edgeVideo_rise : blkAfter (masks 0x00 0x01) 0x40000001 (fun b => (b.pending, b.prevVideo, b.irq))
    = some (0x01, true, true) := by decide
/-- E2: a held level is no edge. -/
theorem test_edgeVideo_held : blkAfter { t1State with blk := { t1State.blk with prevVideo := true } } 0x40000001
    (fun b => (b.pending, b.prevVideo)) = some (0x00, true) := by decide
/-- E6: enabled only for video. -/
theorem test_edgeSpeech_rise : blkAfter (masks 0x00 0x01) 0x40000101 (fun b => (b.pending, b.prevSpeech, b.prevVideo, b.irq))
    = some (0x08, true, false, false) := by decide
/-- E3 for speech: a fall leaves the pending bit. -/
theorem test_edgeSpeech_fall : blkAfter (masks 0x08 0x08) 0x40000100 (fun b => (b.pending, b.prevSpeech, b.irq))
    = some (0x08, false, true) := by decide
/-- E8. -/
theorem test_edgeBusy_inert : blkAfter (masks 0x09 0x01) 0x40000201 id = some (masks 0x09 0x01).blk := by decide

/-! ## Masks: S1 to S13 -/

/-- S11. -/
theorem test_iowIntEnable_drops_line : blkAfter (masks 0x08 0x08) 0x200010F7 (fun b => (b.enabled, b.irq, b.pending))
    = some (0xF7, false, 0x08) := by decide
/-- W8. -/
theorem test_iowIntEnable_raises_line : blkAfter (masks 0x08 0x00) 0x20001008 (fun b => (b.enabled, b.irq))
    = some (0x08, true) := by decide
/-- S6: bits 7:4 are ignored, pin 7 is cleared. -/
theorem test_iowIntSelect_clear : blkAfter (masks 0x00 0x80) 0x200011FE (fun b => (b.enabled, b.irq))
    = some (0x00, false) := by decide
/-- S9. -/
theorem test_iowIntSelect_set : blkAfter (masks 0x08 0x00) 0x20001107 (fun b => (b.enabled, b.irq))
    = some (0x08, true) := by decide
/-- S12, S13. -/
theorem test_int_port_reads : blkAfter (masks 0x09 0x01) 0x00001000 id = some (masks 0x09 0x01).blk ∧
    blkAfter (masks 0x09 0x01) 0x00001100 id = some (masks 0x09 0x01).blk := by decide

/-! ## Arbiter: A1 to A9 -/

/-- A3, and A4 where video is pending but disabled. -/
theorem test_inta_serves :
    (after (masks 0x09 0x09) 0x60000000).map (fun t => (t.io.result, t.blk.pending, t.blk.irq, t.blk.vector))
      = some (some 0xF8, 0x08, true, 0xF8) ∧
    (after (masks 0x09 0x08) 0x60000000).map (fun t => (t.io.result, t.blk.pending, t.blk.irq, t.blk.vector))
      = some (some 0xFB, 0x01, false, 0xFB) := by decide
/-- A8, and the sub-case ForeignActive of 60_exceptions.md R133, which no run reaches. -/
theorem test_inta_fatal :
    (after (masks 0x08 0xF7) 0x60000000).map (fun t => (t.io.result, t.blk.fault, t.blk.pending))
      = some (none, some ⟨.noneActive, 0x08, 0xF7⟩, 0x08) ∧
    (after (masks 0x02 0x02) 0x60000000).map (fun t => (t.io.result, t.blk.fault))
      = some (none, some ⟨.foreignActive, 0x02, 0x02⟩) := by decide
/-- A9. -/
theorem test_faulted_has_no_step : after faulted 0x40000001 = none := by decide

/-! ## Dispatcher: P1 to P25 -/

/-- P1, P14: the answer is the collaborator's, at the offset the window passes. -/
theorem test_forwarded_reads :
    (after t1State 0x00000200).map (fun t => (t.io.result, t.io.trace)) = some (some (Config.fwdRead .vdp 2 0), [.fwdRead .vdp 2]) ∧
    (after t1State 0x00003F00).map (fun t => (t.io.result, t.io.trace)) = some (some (Config.fwdRead .exp 31 0), [.fwdRead .exp 31]) :=
  ⟨rfl, rfl⟩
/-- P2, P4, P6, P9, P11, P13. -/
theorem test_forwarded_writes :
    (after t1State 0x20000380).map (fun t => t.io.trace) = some [.fwdWrite .vdp 3 0x80] ∧
    (after t1State 0x20000792).map (fun t => t.io.trace) = some [.fwdWrite .ppi 3 0x92] ∧
    (after t1State 0x20000841).map (fun t => t.io.trace) = some [.fwdWrite .sio 0 0x41] ∧
    (after t1State 0x20000C9F).map (fun t => t.io.trace) = some [.fwdWrite .psg 0 0x9F] ∧
    (after t1State 0x20001507).map (fun t => t.io.trace) = some [.fwdWrite .speech 0 0x07] ∧
    (after t1State 0x200025AA).map (fun t => t.io.trace) = some [.fwdWrite .exp 5 0xAA] := by decide
/-- P3, P5: a status register of the serial chip is offset 1. -/
theorem test_forwarded_read_offsets :
    (after t1State 0x00000500).map (fun t => t.io.trace) = some [.fwdRead .ppi 1] ∧
    (after t1State 0x00000900).map (fun t => t.io.trace) = some [.fwdRead .sio 1] := by decide
/-- P7. -/
theorem test_iowSpkctl : (after t1State 0x20000B02).map (fun t => (t.blk.spkMd, t.blk.spkBank, t.io.trace))
    = some (false, true, [.drive .bankSelect true, .drive .modeSelect false]) := by decide
/-- P8, P10, P12, P23: the environment's byte. -/
theorem test_external_reads :
    (after t1State 0x00000B00).map (fun t => t.io.result) = some (some (Config.ext .port0BRead 0)) ∧
    (after t1State 0x00000C00).map (fun t => t.io.result) = some (some (Config.ext .port0CRead 0)) ∧
    (after t1State 0x00001400).map (fun t => t.io.result) = some (some (Config.ext .speechPortRead 0)) ∧
    (after t1State 0xC0000000).map (fun t => t.io.result) = some (some (Config.ext .portA 0)) :=
  ⟨rfl, rfl, rfl, rfl⟩
/-- P15, P16, P21, P22: no effect. -/
theorem test_writes_without_effect :
    blkAfter t1State 0x20000A55 id = some t1State.blk ∧ blkAfter t1State 0x20001F00 id = some t1State.blk ∧
    blkAfter t1State 0x20008001 id = some t1State.blk ∧ blkAfter t1State 0x20001B01 id = some t1State.blk := by decide
/-- P17 to P20, P24. -/
theorem test_idle_reads :
    (after t1State 0x00000E00).map (fun t => t.io.result) = some (some 0xFF) ∧
    (after t1State 0x00004000).map (fun t => t.io.result) = some (some 0xFF) ∧
    (after t1State 0x0000FF00).map (fun t => t.io.result) = some (some 0xFF) ∧
    (after t1State 0x00000D00).map (fun t => t.io.result) = some (some 0xFF) ∧
    (after t1State 0xE0000000).map (fun t => t.io.result) = some (some 0xFF) := by decide
/-- P25. -/
theorem test_pcout_logged : (after t1State 0xE000010F).map (fun t => (t.blk, t.io.trace)) = some (t1State.blk, [.logPortC 0x0F]) := by
  decide

/-! ## Touchpad: T1 to T14 -/

/-- T1, T2, T3. -/
theorem test_tp_writes :
    blkAfter t1State 0x20001880 (fun b => (b.tpRowsel, b.scanEnable Params.t1)) = some (0x80, true) ∧
    blkAfter t1State 0x20001901 (fun b => (b.tpMode, b.columnSelect Params.t1)) = some (0x01, true) ∧
    blkAfter t1State 0x20001AFF (fun b => (b.tpUnused, b.scanEnable Params.t1, b.columnSelect Params.t1)) = some (0xFF, false, false) := by
  decide
/-- T12. -/
theorem test_row_input : blkAfter t1State 0x83000010 (fun b => (b.row[3], b.row[2], b.sampledX)) = some (0x000010, 0, 0) := by decide
/-- T4: the last row and column. -/
theorem test_pbin_last_cell : blkAfter (scanning 19 0x800000) 0xA0000000 (fun b => (b.sampledX, b.sampledY))
    = some (Params.t1.xtab[23], Params.t1.ytab[19]) := by decide
/-- T6: several cells of row 0 resolve to column 0, and W5's values are the source's. -/
theorem test_pbin_lowest_column : blkAfter (scanning 0 0xFFFFFF) 0xA0000000 (fun b => (b.sampledX, b.sampledY)) = some (5, 6) := by
  decide
/-- T5: row 2 wins over row 9. -/
theorem test_scan_lowest_row : firstTouched (((scanning 2 0x000C00).blk.row).set 9 0x000001) = some (2, 10) := by decide
/-- T4, T7, T8: the two status bits (PB_AVAIL_BIT 6, PB_PRESS_BIT 7) over tape bits all ones. -/
theorem test_portB_bits :
    ((scanning 19 0x800000).blk.samplePortB Params.t1 0xFF).2 = 0x3F ∧ ((scanning 0 0).blk.samplePortB Params.t1 0xFF).2 = 0xBF ∧
    (t1State.blk.samplePortB Params.t1 0xFF).2 = 0x7F := by decide
/-- T9. -/
theorem test_coordinate_x : (after (scanning 4 0x000002) 0x00001900).map (fun t => t.io.result) = some (some 0x05) := by decide
/-- T10. -/
theorem test_coordinate_y : (after { scanning 4 0x000002 with blk := { (scanning 4 0x000002).blk with tpMode := 0x01 } } 0x00001900).map
    (fun t => t.io.result) = some (some 0x06) := by decide
/-- T13. -/
theorem test_tpCtrl_read : (after t1State 0x00001800).map (fun t => (t.io.result, t.io.tick))
    = some (some (Config.ext .tpCtrlRead 0), 1) := rfl

/-! ## The step -/

theorem test_invalid_word_is_refused : step (t1State.present 0x60000001) = .refused (.invalidWord .reservedBits) := rfl
theorem test_withFetchWord_runs_it : step (State.reset.withFetchWord 32 0x20000C9F) = exec (.iowPsg 0x9F) State.reset := rfl
theorem test_reset_acknowledge_is_next : ∃ t, step (State.reset.withFetchWord 32 0x60000000) = .next t := ⟨_, rfl⟩

/-! ## Witnesses: for each statement with hypotheses, operands that meet them all -/

/-- Serves every statement whose only hypothesis is a running block, and is used by the others. -/
theorem witness_running : t1State.running := by decide

theorem witness_DecodeReadsBackEveryEncoding :
    (Instr.iorTpCtrl .unused).wellFormed t1State.params = true ∧ (Instr.iorUnmappedFree 0x1E).wellFormed t1State.params = true := by
  decide
theorem witness_DecodedWordIsTheEncoding : decode t1State.params 0x9312FF00 = .ok (.row 19 0x12FF00) := rfl
theorem witness_RefusedWordsAreTheReservedOnes : decode t1State.params 0x94000000 = .error .reservedRow := rfl
theorem witness_StepPerformsTheDecodedOperation :
    (t1State.present 0x60000000).running ∧ (t1State.present 0x60000000).io.inbox = [0x60000000] ∧
    decode (t1State.present 0x60000000).params 0x60000000 = .ok .inta := ⟨by decide, rfl, rfl⟩
theorem witness_StepRefusesAnInvalidWord :
    (t1State.present 0x60000001).running ∧ (t1State.present 0x60000001).io.inbox = [0x60000001] ∧
    decode (t1State.present 0x60000001).params 0x60000001 = .error .reservedBits := ⟨by decide, rfl, rfl⟩
theorem witness_IdleStepChangesNothing : t1State.running ∧ t1State.io.inbox = [] := by decide
theorem witness_FaultedBlockHasNoStep : faulted.blk.fault = some ⟨.noneActive, 0x00, 0x00⟩ := by decide
/-- The statements about one operation that ask only for a running block. -/
theorem witness_VideoEdgeLatchesOnRise : (masks 0x00 0x01).running := by decide
theorem witness_SpeechEdgeLatchesOnRise : (masks 0x00 0x08).running := by decide
theorem witness_BusyEdgeIsNotWired : (masks 0x09 0x09).running := by decide
theorem witness_WriteEnableReplacesTheMask : (masks 0x09 0x00).running := by decide
theorem witness_WriteSelectChangesOneBit : (masks 0x09 0xFF).running := by decide
theorem witness_InterruptPortReadsAreExternal : t1State.running := witness_running
/-- Each of the three clauses: video active (speech too), only speech active, neither. -/
theorem witness_AcknowledgeServesOrIsFatal :
    ((masks 0x09 0x09).running ∧ ((masks 0x09 0x09).blk.pending &&& (masks 0x09 0x09).blk.enabled).getLsbD 0 = true) ∧
    ((masks 0x09 0x08).running ∧ ((masks 0x09 0x08).blk.pending &&& (masks 0x09 0x08).blk.enabled).getLsbD 0 = false ∧
      ((masks 0x09 0x08).blk.pending &&& (masks 0x09 0x08).blk.enabled).getLsbD t1State.params.speechBit.val = true) ∧
    ((masks 0x09 0xF6).running ∧ ((masks 0x09 0xF6).blk.pending &&& (masks 0x09 0xF6).blk.enabled).getLsbD 0 = false ∧
      ((masks 0x09 0xF6).blk.pending &&& (masks 0x09 0xF6).blk.enabled).getLsbD t1State.params.speechBit.val = false) := by decide
theorem witness_VideoIsServedBeforeSpeech :
    let s := ((masks 0x09 0x09).present 0x60000000).present 0x60000000
    s.running ∧ s.io.inbox = [0x60000000, 0x60000000] ∧ bitAt (s.blk.pending &&& s.blk.enabled) 0 = true ∧
      bitAt (s.blk.pending &&& s.blk.enabled) s.params.speechBit = true := by decide
/-- Each of the two clauses: line asserted, line not asserted. -/
theorem witness_LineSaysWhetherAcknowledgeIsSafe :
    ((masks 0x08 0x08).coherent ∧ (masks 0x08 0x08).running ∧ (masks 0x08 0x08).blk.irq = true) ∧
    ((masks 0x08 0xF7).coherent ∧ (masks 0x08 0xF7).running ∧ (masks 0x08 0xF7).blk.irq = false) := by decide
/-- The masks of each clause: 0x08 enables pin 3, 0xF7 disables it, 0xF6 disables every pending source; for `CLREN 3` no other pending source is enabled. -/
theorem witness_EnablingAPendingSourceRaisesTheLine :
    ((masks 0x09 0x08).running ∧ bitAt (masks 0x09 0x08).blk.pending 3 = true) ∧
    bitAt 0x08 3 = true ∧ bitAt 0xF7 3 = false ∧
    (bitAt 0xF6 3 = false ∧ ∀ i : Fin 8, bitAt (masks 0x09 0x08).blk.pending i = true → bitAt 0xF6 i = false) ∧
    (∀ i : Fin 8, i ≠ 3 → bitAt (masks 0x09 0x08).blk.pending i = true → bitAt (masks 0x09 0x08).blk.enabled i = false) := by
  decide
/-- The eight words are those of program P5 of 95_test_vectors.md. -/
theorem witness_EightSelectsInAnyOrderEqualOneEnable :
    ∃ s : State, s.running ∧ (List.finRange 8).Perm (List.finRange 8) ∧ s.io.inbox = (List.finRange 8).map (fun q =>
      spellIow s.params.pIntSelect (BitVec.ofNat 8 (2 * q.val) ||| if bitAt 0xA5 q then 0x01#8 else 0x00#8)) ++ [] :=
  ⟨{ t1State with io := { t1State.io with inbox :=
      [0x20001101, 0x20001102, 0x20001105, 0x20001106, 0x20001108, 0x2000110B, 0x2000110C, 0x2000110F] } },
    by decide, List.Perm.refl _, by decide⟩
/-- The mask 0x05 of a writeEnable, and the writeSelect bytes of pins 2 and 7 (vector W2 and the last pin). -/
theorem witness_EnablesOutsidePendingLeaveTheLine :
    ((masks 0x01 0x01).running ∧ (masks 0x01 0x01).blk.lineExact) ∧
    (∀ i : Fin 8, bitAt (masks 0x01 0x01).blk.pending i = true → bitAt 0x05 i = bitAt (masks 0x01 0x01).blk.enabled i) ∧
    ∀ d ∈ [0x05#8, 0x0F#8], (masks 0x01 0x01).blk.pending.getLsbD ((d >>> 1) &&& 0x7#8).toNat = false := by decide
theorem witness_EveryStepKeepsTheLineExact :
    ((masks 0x09 0x09).present 0x60000000).coherent ∧ ∃ t, step ((masks 0x09 0x09).present 0x60000000) = .next t :=
  ⟨by decide, _, rfl⟩
theorem witness_PendingIsStickyAlongRuns :
    let s := ((masks 0x08 0x08).present 0x40000100).present 0x20001000
    (∀ w ∈ s.io.inbox.take 2, decode s.params w ≠ .ok .inta) ∧ (∃ t, run 2 s = .next t) ∧
    bitAt s.blk.pending (Source.speech.bit s.params) = true := by
  refine ⟨fun w hw => ?_, ⟨_, rfl⟩, by decide⟩
  rcases List.mem_cons.mp hw with rfl | hw
  · exact fun h => nomatch (show Except.ok (Instr.iowIntEnable 0x00) = (Except.ok Instr.inta : Except DecodeError Instr) from h)
  · rw [List.mem_singleton.mp hw]
    exact fun h => nomatch (show Except.ok (Instr.edgeSpeech false) = (Except.ok Instr.inta : Except DecodeError Instr) from h)
theorem witness_OnlyItsAcknowledgeClearsAPendingBit :
    ∃ t, step ((masks 0x08 0x08).present 0x60000000) = .next t ∧ bitAt (masks 0x08 0x08).blk.pending 3 = true ∧
      bitAt t.blk.pending 3 = false := ⟨_, rfl, by decide, by decide⟩
theorem witness_OnlyARisingEdgeSetsAPendingBit :
    ∃ t, step (t1State.present 0x40000101) = .next t ∧ bitAt t1State.blk.pending 3 = false ∧ bitAt t.blk.pending 3 = true :=
  ⟨_, rfl, by decide, by decide⟩
theorem witness_EveryPortAccessCompletes : t1State.running := witness_running
theorem witness_VideoWindowIsForwarded : t1State.running := witness_running
theorem witness_ParallelWindowIsForwarded : t1State.running := witness_running
theorem witness_SerialWindowIsForwarded : t1State.running := witness_running
theorem witness_SpeechControlDrivesTwoLines : t1State.running := witness_running
theorem witness_WriteOnlyPortReadsAreExternal : t1State.running := witness_running
theorem witness_SoundWriteForwardsItsByte : t1State.running := witness_running
theorem witness_SpeechDataWriteForwardsAtBothPorts : t1State.running := witness_running
theorem witness_ExpansionWindowIsForwarded : t1State.running := witness_running
theorem witness_UnidentifiedWritesHaveNoEffect : t1State.running := witness_running
/-- The clause over `FREE`, at its first and last port. -/
theorem witness_UnmappedReadsReturnIdle :
    t1State.running ∧ ∀ a ∈ [0x0D#8, 0x1E#8], a ∈ Config.freePorts ∧ a ≠ t1State.params.pIntEnable ∧ a ≠ t1State.params.pIntSelect ∧
      a ≠ t1State.params.pTpCoord ∧ a ≠ t1State.params.pTpRowsel ∧ a ≠ t1State.params.pTpMode ∧ a ≠ t1State.params.pTpUnused := by
  decide
/-- The clause over `FREE`, at its first and last port. -/
theorem witness_UnmappedWritesAreDiscarded :
    t1State.running ∧ ∀ a ∈ [0x0D#8, 0x1E#8], a ∈ Config.freePorts ∧ a ≠ t1State.params.pIntEnable ∧ a ≠ t1State.params.pIntSelect ∧
      a ≠ t1State.params.pTpRowsel ∧ a ≠ t1State.params.pTpMode ∧ a ≠ t1State.params.pTpUnused := by
  decide
theorem witness_PortAIsExternalAndPortCIsIdle : t1State.running := witness_running
theorem witness_PortCOutputIsOnlyLogged : t1State.running := witness_running
theorem witness_TouchpadControlWritesLatchTheByte : t1State.running := witness_running
theorem witness_TouchInputSetsOneRow : t1State.running := witness_running
/-- Each clause: all rows zero; the last row's last column touched alone. -/
theorem witness_ScanReportsTheLowestTouchedCell :
    (∀ r : Fin 20, t1State.blk.row[r] = 0#24) ∧
    ((∀ j : Fin 20, j < 19 → (scanning 19 0x800000).blk.row[j] = 0#24) ∧
      (scanning 19 0x800000).blk.row[(19 : Fin 20)].getLsbD 23 = true ∧
      ∀ j : Fin 24, j < 23 → (scanning 19 0x800000).blk.row[(19 : Fin 20)].getLsbD j.val = false) := by decide
theorem witness_CoordinateReadFollowsColumnSelect : t1State.running := witness_running
theorem witness_TouchpadControlReadsAreExternal : t1State.running ∧ t1State.params.tpPort .unused ≠ t1State.params.pTpCoord := by decide
theorem witness_PortBSampleScansWhileEnabled :
    (scanning 19 0x800000).running ∧
    (scanning 19 0x800000).blk.tp t1State.params.scanReg &&& t1State.params.scanMask ≠ 0#8 := by decide
theorem witness_PortBSampleDoesNotScanWhileDisabled :
    t1State.running ∧ t1State.blk.tp t1State.params.scanReg &&& t1State.params.scanMask = 0#8 := by decide
theorem witness_CoordinatesChangeOnlyInASuccessfulScan :
    ∃ t, step ((scanning 19 0x800000).present 0xA0000000) = .next t ∧ t.blk.sampledX ≠ (scanning 19 0x800000).blk.sampledX :=
  ⟨_, rfl, by decide⟩
theorem witness_SampledCoordinatesStayTableValues :
    ((scanning 19 0x800000).present 0xA0000000).sampledFromTables ∧ ∃ t, step ((scanning 19 0x800000).present 0xA0000000) = .next t :=
  ⟨⟨⟨0, by decide⟩, ⟨0, by decide⟩⟩, _, rfl⟩
theorem witness_SuccessfulScanLatchesTableValues :
    (scanning 19 0x800000).running ∧
    (scanning 19 0x800000).blk.tp t1State.params.scanReg &&& t1State.params.scanMask ≠ 0#8 ∧
    (scanning 19 0x800000).blk.row[(19 : Fin 20)] ≠ 0#24 := by decide
/-- Each clause of the statement has a step that changes the field it speaks of. -/
theorem witness_BlockFieldsChangeOnlyByTheirAgents :
    blkAfter t1State 0x40000001 (fun b => b.pending) ≠ some t1State.blk.pending ∧
    blkAfter (masks 0x01 0x00) 0x20001101 (fun b => b.irq) ≠ some (masks 0x01 0x00).blk.irq ∧
    blkAfter t1State 0x20001001 (fun b => b.enabled) ≠ some t1State.blk.enabled ∧
    blkAfter t1State 0x40000001 (fun b => b.prevVideo) ≠ some t1State.blk.prevVideo ∧
    blkAfter t1State 0x40000101 (fun b => b.prevSpeech) ≠ some t1State.blk.prevSpeech ∧
    blkAfter t1State 0x83000010 (fun b => b.row) ≠ some t1State.blk.row ∧
    blkAfter (scanning 19 0x800000) 0xA0000000 (fun b => b.sampledX) ≠ some (scanning 19 0x800000).blk.sampledX ∧
    blkAfter (masks 0x01 0x01) 0x60000000 (fun b => b.vector) ≠ some (masks 0x01 0x01).blk.vector := by decide
theorem witness_PortReadsLeaveTheBlockUnchanged : t1State.running ∧ (Instr.iorTpCoord).opClass = .ior := by decide
theorem witness_OnlyReadingOperationsReturnAByte : ∃ t, exec .inta (masks 0x01 0x01) = .next t := ⟨_, rfl⟩
theorem witness_RepeatedWritesAndSamplesAreIdempotent :
    ∃ t u, exec .pbin (scanning 19 0x800000) = .next t ∧ exec .pbin t = .next u := ⟨_, _, rfl, rfl⟩
theorem witness_ForwardedAccessCommutesWithACallback :
    (Instr.edgeVideo false).agent = .videoChip ∧
    ∃ t u t' u', exec (.iowVdp 1 0x20) t1State = .next t ∧ exec (.edgeVideo false) t = .next u ∧
      exec (.edgeVideo false) t1State = .next t' ∧ exec (.iowVdp 1 0x20) t' = .next u' := ⟨rfl, _, _, _, _, rfl, rfl, rfl, rfl⟩
/-- Two states that differ in the touchpad part only. -/
theorem witness_InterruptPartIsIndependentOfTheTouchpad :
    ((masks 0x00 0x00).present 0x40000001).blk.interruptPart = ((scanning 3 0x10).present 0x40000001).blk.interruptPart ∧
    ((masks 0x00 0x00).present 0x40000001).io.inbox = ((scanning 3 0x10).present 0x40000001).io.inbox ∧
    (∃ t, step ((masks 0x00 0x00).present 0x40000001) = .next t) ∧ ∃ t, step ((scanning 3 0x10).present 0x40000001) = .next t :=
  ⟨rfl, rfl, ⟨_, rfl⟩, ⟨_, rfl⟩⟩
/-- Two states that differ in the interrupt part only. -/
theorem witness_TouchpadPartIsIndependentOfInterrupts :
    ((masks 0x01 0x01).present 0xA0000000).blk.touchpadPart = (t1State.present 0xA0000000).blk.touchpadPart ∧
    ((masks 0x01 0x01).present 0xA0000000).io.inbox = (t1State.present 0xA0000000).io.inbox ∧
    (∃ t, step ((masks 0x01 0x01).present 0xA0000000) = .next t) ∧ ∃ t, step (t1State.present 0xA0000000) = .next t :=
  ⟨rfl, rfl, ⟨_, rfl⟩, ⟨_, rfl⟩⟩
theorem witness_RunsConsumeInOrderAndNeverRetract : ∃ t, run 2 (t1State.present 0x20000C9F) = .next t := ⟨_, rfl⟩

end Sys2Proof.Tests
end

section
/-! PROOFS. Reading a port write and an edge back from its written word: what a statement's decode clause rests on. -/

namespace Sys2Proof

/-! ### The written words are the encoder's (30_encoding.md R76) -/

/-- The written `IOW a, d` is the encoder's word (30_encoding.md R76). -/
theorem spellIow_eq_iowWord (a : Port) (d : Byte) : spellIow a d = iowWord a d := by
  have ha := a.isLt
  have hd := d.isLt
  have hshift : (a.setWidth 32 <<< 8).toNat = a.toNat <<< 8 := by
    simp [BitVec.toNat_shiftLeft, Nat.shiftLeft_eq]; omega
  have hjoin : 0x200000 + a.toNat = 0x200000 ||| a.toNat := Nat.two_pow_add_eq_or_of_lt (i := 21) (by omega) 1
  refine BitVec.eq_of_toNat_eq ?_
  calc (spellIow a d).toNat
      = 0x200000 <<< 8 ||| a.toNat <<< 8 ||| d.toNat := by
        simp [spellIow, hshift, Nat.mod_eq_of_lt (show d.toNat < 4294967296 by omega)]
    _ = (0x200000 + a.toNat) <<< 8 + d.toNat := by
      rw [Nat.shiftLeft_add_eq_or_of_lt hd, hjoin, Nat.shiftLeft_or_distrib]
    _ = (iowWord a d).toNat := by rw [toNat_iowWord, Nat.shiftLeft_eq]; omega

/-- The written `EDGE BUSY, l` is the encoder's word (30_encoding.md R76). -/
theorem spellEdgeBusy_eq_edgeWord (l : Bool) : spellEdgeBusy l = edgeWord 0b10#2 l := by
  cases l <;> rfl

/-! ### Decoding the encoder's words -/

theorem decode_eq_decodeIow {w : Word} (p : Params) (h : classField w = OpClass.iow.code) : decode p w = decodeIow p w := by
  simp [decode, h]

theorem decode_eq_decodeEdge {w : Word} (p : Params) (h : classField w = OpClass.edge.code) :
    decode p w = decodeEdge w := by
  simp [decode, h]

/-- A field has the value that its quotient and remainder give. -/
theorem field_eq {w : Word} {start len : Nat} {v : BitVec len} (h : w.toNat / 2 ^ start % 2 ^ len = v.toNat) :
    w.extractLsb' start len = v :=
  BitVec.eq_of_toNat_eq ((toNat_field w start len).trans h)

@[simp] theorem portField_iowWord (a : Port) (d : Byte) : portField (iowWord a d) = a :=
  field_eq (by rw [toNat_iowWord]; have := a.isLt; have := d.isLt; omega)

@[simp] theorem dataField_iowWord (a : Port) (d : Byte) : dataField (iowWord a d) = d :=
  field_eq (by rw [toNat_iowWord]; have := d.isLt; omega)

/-- Bits 28:16 of an IOW word are reserved (30_encoding.md R64). -/
theorem reserved_iowWord (a : Port) (d : Byte) : (iowWord a d).extractLsb' 16 13 = 0#13 :=
  field_eq (by rw [toNat_iowWord]; have := a.isLt; have := d.isLt; simp; omega)

/-- An IOW word decodes to the operation the write dispatcher gives for its port and byte. -/
theorem decode_iowWord (p : Params) (a : Port) (d : Byte) : decode p (iowWord a d) = .ok (writeHandler p a d) := by
  rw [decode_eq_decodeIow p (classField_iowWord a d), decodeIow, if_pos (reserved_iowWord a d), portField_iowWord,
    dataField_iowWord]

theorem srcField_edgeWord (src : BitVec 2) (l : Bool) : (edgeWord src l).extractLsb' 8 2 = src :=
  field_eq (by rw [toNat_edgeWord]; have := src.isLt; have := Bool.toNat_le l; omega)

/-- Bits 28:10 and 7:1 of an EDGE word are reserved (30_encoding.md R65). -/
theorem reserved_edgeWord (src : BitVec 2) (l : Bool) :
    (edgeWord src l).extractLsb' 10 19 = 0#19 ∧ (edgeWord src l).extractLsb' 1 7 = 0#7 := by
  have hs := src.isLt
  have hl := Bool.toNat_le l
  exact ⟨field_eq (by rw [toNat_edgeWord]; simp; omega), field_eq (by rw [toNat_edgeWord]; simp; omega)⟩

theorem level_edgeWord (src : BitVec 2) (l : Bool) : (edgeWord src l).getLsbD 0 = l := by
  rw [getLsbD_field, toNat_edgeWord]
  cases l <;> simp <;> omega

/-- An EDGE word decodes to the edge of the source it names; the fourth code is reserved (30_encoding.md R65). -/
theorem decode_edgeWord (p : Params) (src : BitVec 2) (l : Bool) :
    decode p (edgeWord src l) =
      if src = 0b00#2 then .ok (.edgeVideo l)
      else if src = 0b01#2 then .ok (.edgeSpeech l)
      else if src = 0b10#2 then .ok (.edgeBusy l)
      else .error .reservedSource := by
  rw [decode_eq_decodeEdge p (classField_edgeWord src l), decodeEdge, if_pos (reserved_edgeWord src l),
    srcField_edgeWord, level_edgeWord]

/-! ### The ports of the interrupt registers -/

/-- No fixed window claims a free port: its write handler is the one the parameters give it (41_dispatcher.md R95). -/
theorem writeHandler_of_mem_freePorts (p : Params) {a : Port} (d : Byte) (h : a ∈ Config.freePorts) :
    writeHandler p a d = freeWriteHandler p a d := by
  simp only [Config.freePorts, List.mem_cons, List.not_mem_nil, or_false] at h
  rcases h with rfl | rfl | rfl | rfl | rfl | rfl | rfl | rfl | rfl | rfl | rfl | rfl | rfl | rfl <;> rfl

/-- The write ports of the parameters are free ports, and distinct (00_scope.md R8 (a)). -/
theorem Instantiation.writePorts_free_and_nodup (c : Instantiation) :
    (∀ a ∈ [c.params.pIntEnable, c.params.pIntSelect, c.params.pTpRowsel, c.params.pTpMode, c.params.pTpUnused],
      a ∈ Config.freePorts) ∧
    [c.params.pIntEnable, c.params.pIntSelect, c.params.pTpRowsel, c.params.pTpMode, c.params.pTpUnused].Nodup := by
  have h := c.obeys
  simp only [Params.valid, Bool.and_eq_true, List.all_eq_true, decide_eq_true_eq] at h
  tauto

/-- A write at `P_INT_ENABLE` spells writeEnable (40_interrupt.md R81). -/
theorem decode_spellIow_pIntEnable (c : Instantiation) (d : Byte) :
    decode c.params (spellIow c.params.pIntEnable d) = .ok (.iowIntEnable d) := by
  obtain ⟨hfree, _⟩ := c.writePorts_free_and_nodup
  rw [spellIow_eq_iowWord, decode_iowWord, writeHandler_of_mem_freePorts _ _ (hfree _ (by simp)), freeWriteHandler,
    if_pos rfl]

/-- A write at `P_INT_SELECT` spells writeSelect: the two ports differ (40_interrupt.md R82). -/
theorem decode_spellIow_pIntSelect (c : Instantiation) (d : Byte) :
    decode c.params (spellIow c.params.pIntSelect d) = .ok (.iowIntSelect d) := by
  obtain ⟨hfree, hnodup⟩ := c.writePorts_free_and_nodup
  have hne : c.params.pIntSelect ≠ c.params.pIntEnable := fun h => (List.nodup_cons.mp hnodup).1 (by simp [h])
  rw [spellIow_eq_iowWord, decode_iowWord, writeHandler_of_mem_freePorts _ _ (hfree _ (by simp)), freeWriteHandler,
    if_neg hne, if_pos rfl]

/-- `EDGE BUSY, l` is read back from its written word (40_interrupt.md R86). -/
theorem decode_spellEdgeBusy (p : Params) (l : Bool) : decode p (spellEdgeBusy l) = .ok (.edgeBusy l) := by
  rw [spellEdgeBusy_eq_edgeWord, decode_edgeWord]
  rfl

end Sys2Proof
end

section
/-! PROOFS. The statements of 40_interrupt.md about the mask writes and the busy edge. -/

namespace Sys2Proof.Machine

/-! ### writeSelect -/

/-- `d[7:4]` do not reach the pin index of a writeSelect byte (30_encoding.md R72). -/
@[simp] theorem pinIndex_and_lowNibble (d : Byte) : pinIndex (d &&& 0x0F#8) = pinIndex d := by
  refine Fin.ext ?_
  rw [pinIndex_val, pinIndex_val, BitVec.ushiftRight_and_distrib, BitVec.and_assoc]
  rfl

/-- `d[7:4]` do not reach the set bit of a writeSelect byte (30_encoding.md R72). -/
@[simp] theorem selectSets_and_lowNibble (d : Byte) : selectSets (d &&& 0x0F#8) = selectSets d := by
  rw [selectSets, selectSets, BitVec.and_assoc]
  rfl

/-- The enabled mask after writeSelect, as the rule's pseudocode writes it (40_interrupt.md R82). -/
theorem Block.writeSelect_enabled_eq_ite (b : Block) (d : Byte) :
    (b.writeSelect d).enabled =
      if d &&& 0x1#8 = 0x1#8 then b.enabled ||| (1#8 <<< ((d >>> 1) &&& 0x7#8).toNat)
      else b.enabled &&& ~~~(1#8 <<< ((d >>> 1) &&& 0x7#8).toNat) := by
  simp only [Block.writeSelect_enabled, putBit, pinIndex_val, selectSets, beq_iff_eq]

/-- writeSelect ignores `d[7:4]` (40_interrupt.md R82). -/
theorem Block.writeSelect_and_lowNibble (b : Block) (d : Byte) : b.writeSelect (d &&& 0x0F#8) = b.writeSelect d := by
  rw [Block.writeSelect, Block.writeSelect, pinIndex_and_lowNibble, selectSets_and_lowNibble]

/-- writeSelect is a writeEnable of the mask with one bit changed (40_interrupt.md R81, R82). -/
theorem Block.writeSelect_eq_writeEnable (b : Block) (d : Byte) :
    b.writeSelect d = b.writeEnable (b.writeSelect d).enabled := rfl

/-! ### The operations on a running block -/

/-- A busy edge on a running block only returns nothing (40_interrupt.md R86). -/
theorem exec_edgeBusy {s : State} (h : s.running) (l : Bool) : exec (.edgeBusy l) s = .next (s.answer none) := by
  rw [exec, execEdgeBusy, State.operate_running h]

/-- A write of the enable register on a running block is writeEnable (40_interrupt.md R81). -/
theorem exec_iowIntEnable {s : State} (h : s.running) (d : Byte) :
    exec (.iowIntEnable d) s = .next ((s.mapBlock (Block.writeEnable d)).answer none) := by
  rw [exec, execIowIntEnable, State.operate_running h]

/-- A write of the select register on a running block is writeSelect (40_interrupt.md R82). -/
theorem exec_iowIntSelect {s : State} (h : s.running) (d : Byte) :
    exec (.iowIntSelect d) s = .next ((s.mapBlock (Block.writeSelect d)).answer none) := by
  rw [exec, execIowIntSelect, State.operate_running h]

/-! ### The statements -/

/-- Settles O12: the operation keeps the block; its word is the EDGE word of the third source. -/
theorem busyEdgeIsNotWired : Obligations.BusyEdgeIsNotWired := by
  intro s l hs
  exact ⟨decode_spellEdgeBusy s.params l, exec_edgeBusy hs l⟩

/-- Settles O13: `P_INT_ENABLE` is a free port, and the operation there is writeEnable. -/
theorem writeEnableReplacesTheMask : Obligations.WriteEnableReplacesTheMask := by
  intro s d hs
  exact ⟨decode_spellIow_pIntEnable s.inst d, exec_iowIntEnable hs d⟩

/-- Settles O14: `P_INT_SELECT` is another free port, writeSelect there is a writeEnable of the mask with one bit changed,
and neither operand of the change reads `d[7:4]`. -/
theorem writeSelectChangesOneBit : Obligations.WriteSelectChangesOneBit := by
  intro s d hs pin enabled
  have hmask : (s.blk.writeSelect d).enabled = enabled := s.blk.writeSelect_enabled_eq_ite d
  refine ⟨decode_spellIow_pIntSelect s.inst d, ?_, ?_⟩
  · have hwrite : s.mapBlock (Block.writeSelect d) = s.mapBlock (Block.writeEnable enabled) := by
      rw [State.mapBlock, Block.writeSelect_eq_writeEnable, hmask, State.mapBlock]
    rw [exec_iowIntSelect hs, hwrite]
    rfl
  · rw [exec_iowIntSelect hs, exec_iowIntSelect hs]
    simp only [State.mapBlock, Block.writeSelect_and_lowNibble]

end Sys2Proof.Machine
end

section
/-! PROOFS. Reading a port access and a port C output back from their written words: which operation the dispatcher gives. -/

namespace Sys2Proof

/-! ### The written words are the encoder's (30_encoding.md R76) -/

/-- The written `IOR a` is the encoder's word (30_encoding.md R76). -/
theorem spellIor_eq_iorWord (a : Port) : spellIor a = iorWord a := by
  have ha := a.isLt
  refine BitVec.eq_of_toNat_eq ?_
  rw [toNat_iorWord]
  simp [spellIor, BitVec.toNat_shiftLeft, Nat.shiftLeft_eq, Nat.mod_eq_of_lt (show a.toNat * 256 < 4294967296 by omega)]

/-- The written `PCOUT d` is the encoder's word (30_encoding.md R76). -/
theorem spellPcout_eq_pcWord (d : Byte) : spellPcout d = pcWord true d := by
  have hd := d.isLt
  refine BitVec.eq_of_toNat_eq ?_
  calc (spellPcout d).toNat
      = 0xE00001 <<< 8 ||| d.toNat := by simp [spellPcout, Nat.mod_eq_of_lt (show d.toNat < 4294967296 by omega)]
    _ = 0xE00001 <<< 8 + d.toNat := (Nat.shiftLeft_add_eq_or_of_lt hd _).symm
    _ = (pcWord true d).toNat := by rw [toNat_pcWord]; rfl

/-! ### Decoding an IOR word -/

@[simp] theorem portField_iorWord (a : Port) : portField (iorWord a) = a :=
  field_eq (by rw [toNat_iorWord]; have := a.isLt; omega)

/-- Bits 28:16 and 7:0 of an IOR word are reserved (30_encoding.md R63). -/
theorem reserved_iorWord (a : Port) :
    (iorWord a).extractLsb' 16 13 = 0#13 ∧ (iorWord a).extractLsb' 0 8 = 0#8 := by
  have ha := a.isLt
  exact ⟨field_eq (by rw [toNat_iorWord, BitVec.toNat_zero]; omega), field_eq (by rw [toNat_iorWord, BitVec.toNat_zero]; omega)⟩

/-- An IOR word decodes to the operation the read dispatcher gives for its port. -/
theorem decode_iorWord (p : Params) (a : Port) : decode p (iorWord a) = .ok (readHandler p a) := by
  have hclass : decode p (iorWord a) = decodeIor p (iorWord a) := by simp [decode]
  rw [hclass, decodeIor, if_pos (reserved_iorWord a), portField_iorWord]

/-! ### Decoding a PC word -/

@[simp] theorem dataField_pcWord (w : Bool) (d : Byte) : dataField (pcWord w d) = d :=
  field_eq (by rw [toNat_pcWord]; have := d.isLt; omega)

/-- Bits 28:9 of a PC word are reserved (30_encoding.md R70). -/
theorem reserved_pcWord (w : Bool) (d : Byte) : (pcWord w d).extractLsb' 9 20 = 0#20 :=
  field_eq (by rw [toNat_pcWord, BitVec.toNat_zero]; have := d.isLt; have := Bool.toNat_le w; omega)

theorem writeBit_pcWord (w : Bool) (d : Byte) : (pcWord w d).getLsbD 8 = w := by
  have := d.isLt
  rw [getLsbD_field, toNat_pcWord]
  cases w <;> simp <;> omega

/-- A PC word is an output of its byte, or an input with no byte in the word (30_encoding.md R70). -/
theorem decode_pcWord (p : Params) (w : Bool) (d : Byte) :
    decode p (pcWord w d) =
      if w then .ok (.pcout d) else if d = 0#8 then .ok .pcin else .error .reservedBits := by
  have hclass : decode p (pcWord w d) = decodePc (pcWord w d) := by simp [decode]
  rw [hclass, decodePc, if_pos (reserved_pcWord w d), writeBit_pcWord, dataField_pcWord]

/-! ### The written words decode -/

/-- A written read decodes to the dispatcher's read handler of its port (41_dispatcher.md R93). -/
theorem decode_spellIor (p : Params) (a : Port) : decode p (spellIor a) = .ok (readHandler p a) := by
  rw [spellIor_eq_iorWord, decode_iorWord]

/-- A written write decodes to the dispatcher's write handler of its port (41_dispatcher.md R93). -/
theorem decode_spellIow (p : Params) (a : Port) (d : Byte) :
    decode p (spellIow a d) = .ok (writeHandler p a d) := by
  rw [spellIow_eq_iowWord, decode_iowWord]

/-- `PCOUT d` is read back from its written word (41_dispatcher.md R115). -/
theorem decode_spellPcout (p : Params) (d : Byte) : decode p (spellPcout d) = .ok (.pcout d) := by
  rw [spellPcout_eq_pcWord, decode_pcWord, if_pos rfl]

/-! ### The dispatcher answers an operation of the access's class (41_dispatcher.md R93 to R95) -/

/-- A choice between two operations of a class is of that class. -/
theorem opClass_ite {c : Prop} [Decidable c] {i j : Instr} {k : OpClass} (hi : i.opClass = k) (hj : j.opClass = k) :
    (if c then i else j).opClass = k := by
  split
  · exact hi
  · exact hj

/-- Every port that no fixed window claims has a read handler: a parameter's or the unmapped one. -/
theorem freeReadHandler_opClass (p : Params) (a : Port) : (freeReadHandler p a).opClass = .ior := by
  unfold freeReadHandler
  iterate 6 refine opClass_ite rfl ?_
  rfl

/-- Every port that no fixed window claims has a write handler: a parameter's or the unmapped one. -/
theorem freeWriteHandler_opClass (p : Params) (a : Port) (d : Byte) : (freeWriteHandler p a d).opClass = .iow := by
  unfold freeWriteHandler
  iterate 5 refine opClass_ite rfl ?_
  rfl

/-- Every port has a read handler: one of the twelve fixed windows' or the one the parameters give. -/
theorem readHandler_opClass (p : Params) (a : Port) : (readHandler p a).opClass = .ior := by
  unfold readHandler
  iterate 12 refine opClass_ite rfl ?_
  exact freeReadHandler_opClass p a

/-- Every port has a write handler: one of the twelve fixed windows' or the one the parameters give. -/
theorem writeHandler_opClass (p : Params) (a : Port) (d : Byte) : (writeHandler p a d).opClass = .iow := by
  unfold writeHandler
  iterate 12 refine opClass_ite rfl ?_
  exact freeWriteHandler_opClass p a d

/-! ### The write handlers of the fixed ports of a chip or of no known effect (41_dispatcher.md R95) -/

theorem writeHandler_psgPort (p : Params) (d : Byte) : writeHandler p 0x0C#8 d = .iowPsg d := rfl

theorem writeHandler_spkData (p : Params) (d : Byte) : writeHandler p 0x14#8 d = .iowSpkdata 0 d := rfl

theorem writeHandler_spkDataMirror (p : Params) (d : Byte) : writeHandler p 0x15#8 d = .iowSpkdata 1 d := rfl

theorem writeHandler_unid0A (p : Params) (d : Byte) : writeHandler p 0x0A#8 d = .iowUnid0A d := rfl

theorem writeHandler_unid0E (p : Params) (d : Byte) : writeHandler p 0x0E#8 d = .iowUnid0E0F 0 d := rfl

theorem writeHandler_unid0F (p : Params) (d : Byte) : writeHandler p 0x0F#8 d = .iowUnid0E0F 1 d := rfl

theorem writeHandler_unid1F (p : Params) (d : Byte) : writeHandler p 0x1F#8 d = .iowUnid1F d := rfl

end Sys2Proof
end

section
/-! PROOFS. The statements of 41_dispatcher.md about every port access, the sound and speech data writes, the unidentified
writes and the port C output. -/

namespace Sys2Proof.Machine

/-! ### The operations on a running block -/

/-- A sound write on a running block is forwarded to the chip's one register (41_dispatcher.md R104). -/
theorem exec_iowPsg {s : State} (h : s.running) (d : Byte) : exec (.iowPsg d) s = .next (s.forwardWrite .psg 0 d) := by
  rw [exec, execIowPsg, State.operate_running h]

/-- A speech data write at either port on a running block is forwarded to the one register (41_dispatcher.md R106). -/
theorem exec_iowSpkdata {s : State} (h : s.running) (mirror : BitVec 1) (d : Byte) :
    exec (.iowSpkdata mirror d) s = .next (s.forwardWrite .speech 0 d) := by
  rw [exec, execIowSpkdata, State.operate_running h]

/-- A write at 0x0A on a running block only returns nothing (41_dispatcher.md R110). -/
theorem exec_iowUnid0A {s : State} (h : s.running) (d : Byte) : exec (.iowUnid0A d) s = .next (s.answer none) := by
  rw [exec, execIowUnid0A, State.operate_running h]

/-- A write at 0x0E or 0x0F on a running block only returns nothing (41_dispatcher.md R110). -/
theorem exec_iowUnid0E0F {s : State} (h : s.running) (off : BitVec 1) (d : Byte) :
    exec (.iowUnid0E0F off d) s = .next (s.answer none) := by
  rw [exec, execIowUnid0E0F, State.operate_running h]

/-- A write at 0x1F on a running block only returns nothing (41_dispatcher.md R110). -/
theorem exec_iowUnid1F {s : State} (h : s.running) (d : Byte) : exec (.iowUnid1F d) s = .next (s.answer none) := by
  rw [exec, execIowUnid1F, State.operate_running h]

/-- A port C output on a running block is logged and returns nothing (41_dispatcher.md R115). -/
theorem exec_pcout {s : State} (h : s.running) (d : Byte) :
    exec (.pcout d) s = .next ((s.act (.logPortC d)).answer none) := by
  rw [exec, execPcout, State.operate_running h]

/-! ### The statements -/

/-- Settles O27: the word decodes to the handler of its port, which is of the access's class, and a running block completes
every operation. -/
theorem everyPortAccessCompletes : Obligations.EveryPortAccessCompletes := by
  intro s a d hs
  obtain ⟨t, hread, _⟩ := exec_running hs (readHandler s.params a)
  obtain ⟨u, hwrite, _⟩ := exec_running hs (writeHandler s.params a d)
  exact ⟨⟨_, t, decode_spellIor s.params a, readHandler_opClass s.params a, hread⟩,
    ⟨_, u, decode_spellIow s.params a d, writeHandler_opClass s.params a d, hwrite⟩⟩

/-- Settles O33: the handler of 0x0C is the sound write, which forwards its byte. -/
theorem soundWriteForwardsItsByte : Obligations.SoundWriteForwardsItsByte := by
  intro s d hs
  exact ⟨by rw [decode_spellIow, writeHandler_psgPort], exec_iowPsg hs d⟩

/-- Settles O34: 0x14 and 0x15 have one handler, which forwards its byte whatever its mirror bit. -/
theorem speechDataWriteForwardsAtBothPorts : Obligations.SpeechDataWriteForwardsAtBothPorts := by
  intro s mirror d hs
  exact ⟨by rw [decode_spellIow, writeHandler_spkData], by rw [decode_spellIow, writeHandler_spkDataMirror],
    exec_iowSpkdata hs mirror d⟩

/-- Settles O36: each of the four ports has its own handler, and each handler only returns nothing. -/
theorem unidentifiedWritesHaveNoEffect : Obligations.UnidentifiedWritesHaveNoEffect := by
  intro s d hs t
  exact ⟨⟨by rw [decode_spellIow, writeHandler_unid0A], exec_iowUnid0A hs d⟩,
    ⟨by rw [decode_spellIow, writeHandler_unid0E], exec_iowUnid0E0F hs 0 d⟩,
    ⟨by rw [decode_spellIow, writeHandler_unid0F], exec_iowUnid0E0F hs 1 d⟩,
    ⟨by rw [decode_spellIow, writeHandler_unid1F], exec_iowUnid1F hs d⟩⟩

/-- Settles O40: the operation only logs its byte, and its word is the PC word with the write bit set. -/
theorem portCOutputIsOnlyLogged : Obligations.PortCOutputIsOnlyLogged := by
  intro s d hs
  exact ⟨decode_spellPcout s.params d, exec_pcout hs d⟩

end Sys2Proof.Machine
end

section
/-! PROOFS. Reading a touchpad register access back from its written word: the three control ports and the coordinate port are free ports
that no earlier row of the dispatcher claims. -/

namespace Sys2Proof

/-! ### The control writes -/

/-- The write operation of a touchpad control register (42_touchpad.md R116 to R118). -/
def TpReg.writeInstr (d : Byte) : TpReg → Instr
  | .rowsel => .iowTpRowsel d
  | .mode => .iowTpMode d
  | .unused => .iowTpUnused d

/-- The control ports are free ports (00_scope.md R8 (a)). -/
theorem Instantiation.tpPort_mem_freePorts (c : Instantiation) (r : TpReg) : c.params.tpPort r ∈ Config.freePorts := by
  obtain ⟨hfree, _⟩ := c.writePorts_free_and_nodup
  cases r <;> exact hfree _ (by simp [Params.tpPort])

/-- A control port is not a port of the interrupt registers (00_scope.md R8 (a)). -/
theorem Instantiation.tpPort_ne_interruptPorts (c : Instantiation) (r : TpReg) :
    c.params.tpPort r ≠ c.params.pIntEnable ∧ c.params.tpPort r ≠ c.params.pIntSelect := by
  obtain ⟨_, hnodup⟩ := c.writePorts_free_and_nodup
  obtain ⟨henable, hnodup⟩ := List.nodup_cons.mp hnodup
  obtain ⟨hselect, _⟩ := List.nodup_cons.mp hnodup
  have hmem : c.params.tpPort r ∈ [c.params.pTpRowsel, c.params.pTpMode, c.params.pTpUnused] := by
    cases r <;> simp [Params.tpPort]
  exact ⟨fun h => henable (h ▸ List.mem_cons_of_mem _ hmem), fun h => hselect (h ▸ hmem)⟩

/-- The three control ports differ (00_scope.md R8 (a)). -/
theorem Instantiation.tpPort_injective (c : Instantiation) {r r' : TpReg} (h : c.params.tpPort r = c.params.tpPort r') :
    r = r' := by
  obtain ⟨_, hnodup⟩ := c.writePorts_free_and_nodup
  have hports : [c.params.pTpRowsel, c.params.pTpMode, c.params.pTpUnused].Nodup := hnodup.of_cons.of_cons
  have hregs : ([.rowsel, .mode, .unused].map c.params.tpPort).Nodup := hports
  exact List.inj_on_of_nodup_map hregs (by cases r <;> simp) (by cases r' <;> simp) h

/-- The dispatcher gives each control port the write of its register (41_dispatcher.md R95). -/
theorem Instantiation.freeWriteHandler_tpPort (c : Instantiation) (r : TpReg) (d : Byte) :
    freeWriteHandler c.params (c.params.tpPort r) d = r.writeInstr d := by
  obtain ⟨henable, hselect⟩ := c.tpPort_ne_interruptPorts r
  rw [freeWriteHandler, if_neg henable, if_neg hselect]
  cases r with
  | rowsel => exact if_pos rfl
  | mode =>
    have hrowsel : c.params.tpPort .mode ≠ c.params.pTpRowsel := fun h => nomatch c.tpPort_injective (r' := .rowsel) h
    rw [if_neg hrowsel]
    exact if_pos rfl
  | unused =>
    have hrowsel : c.params.tpPort .unused ≠ c.params.pTpRowsel := fun h => nomatch c.tpPort_injective (r' := .rowsel) h
    have hmode : c.params.tpPort .unused ≠ c.params.pTpMode := fun h => nomatch c.tpPort_injective (r' := .mode) h
    rw [if_neg hrowsel, if_neg hmode]
    exact if_pos rfl

/-- A write at a control port spells the latch of its register (42_touchpad.md R116 to R118). -/
theorem decode_spellIow_tpPort (c : Instantiation) (r : TpReg) (d : Byte) :
    decode c.params (spellIow (c.params.tpPort r) d) = .ok (r.writeInstr d) := by
  rw [decode_spellIow, writeHandler_of_mem_freePorts _ _ (c.tpPort_mem_freePorts r), c.freeWriteHandler_tpPort]

/-! ### The coordinate read -/

/-- No fixed window claims a free port: its read handler is the one the parameters give it (41_dispatcher.md R95). -/
theorem readHandler_of_mem_freePorts (p : Params) {a : Port} (h : a ∈ Config.freePorts) :
    readHandler p a = freeReadHandler p a := by
  simp only [Config.freePorts, List.mem_cons, List.not_mem_nil, or_false] at h
  rcases h with rfl | rfl | rfl | rfl | rfl | rfl | rfl | rfl | rfl | rfl | rfl | rfl | rfl | rfl <;> rfl

/-- The coordinate port is a free port and not a port of the interrupt registers (00_scope.md R8 (b)). -/
theorem Instantiation.pTpCoord_free_and_ne (c : Instantiation) :
    c.params.pTpCoord ∈ Config.freePorts ∧ c.params.pTpCoord ≠ c.params.pIntEnable ∧
      c.params.pTpCoord ≠ c.params.pIntSelect := by
  have h := c.obeys
  simp only [Params.valid, Bool.and_eq_true, decide_eq_true_eq, bne_iff_ne] at h
  tauto

/-- A read at the coordinate port spells readCoordinate, also where a control register shares the port (42_touchpad.md R122). -/
theorem decode_spellIor_pTpCoord (c : Instantiation) :
    decode c.params (spellIor c.params.pTpCoord) = .ok .iorTpCoord := by
  obtain ⟨hfree, henable, hselect⟩ := c.pTpCoord_free_and_ne
  rw [decode_spellIor, readHandler_of_mem_freePorts _ hfree, freeReadHandler, if_neg henable, if_neg hselect, if_pos rfl]

end Sys2Proof
end

section
/-! PROOFS. The statements of 42_touchpad.md about the scan, the control writes and the coordinate read. -/

namespace Sys2Proof.Machine

/-! ### The scan -/

/-- A scan that finds a cell latches its table values and answers true (42_touchpad.md R121). -/
theorem Block.isPressed_of_firstTouched_eq_some (p : Params) {b : Block} {r : Fin 20} {c : Fin 24}
    (h : firstTouched b.row = some (r, c)) :
    b.isPressed p = ({ b with sampledX := p.xtab[c], sampledY := p.ytab[r] }, true) := by
  rw [Block.isPressed, h]

/-- A scan that finds no cell answers false and changes nothing (42_touchpad.md R121). -/
theorem Block.isPressed_of_firstTouched_eq_none (p : Params) {b : Block} (h : firstTouched b.row = none) :
    b.isPressed p = (b, false) := by
  rw [Block.isPressed, h]

/-- A scan answers true exactly when some row has a set bit (42_touchpad.md R121). -/
theorem Block.isPressed_answer_iff (p : Params) (b : Block) :
    (b.isPressed p).2 = true ↔ ∃ r : Fin 20, b.row[r] ≠ 0#24 := by
  have hsome : (∃ r : Fin 20, b.row[r] ≠ 0#24) ↔ firstTouched b.row ≠ none := by
    rw [Ne, firstTouched_eq_none, not_forall]
  rw [hsome]
  rcases b.isPressed_cases p with ⟨r, c, hcell, hscan⟩ | ⟨hcell, hscan⟩ <;> simp [hcell, hscan]

/-! ### The operations on a running block -/

/-- A control write on a running block latches its byte in its register (42_touchpad.md R116 to R118). -/
theorem exec_writeInstr {s : State} (h : s.running) (r : TpReg) (d : Byte) :
    exec (r.writeInstr d) s = .next ((s.mapBlock (Block.latchTp r d)).answer none) := by
  have hlatch : exec (r.writeInstr d) s = s.operate fun s => (s.mapBlock (Block.latchTp r d)).answer none := by
    cases r <;> rfl
  rw [hlatch, State.operate_running h]

/-- A coordinate read on a running block returns the selected latch (42_touchpad.md R122). -/
theorem exec_iorTpCoord {s : State} (h : s.running) :
    exec .iorTpCoord s = .next (s.answer (some (s.blk.readCoordinate s.params))) := by
  rw [exec, execIorTpCoord, State.operate_running h]

/-! ### The statements -/

/-- Settles O43: the scan reports what `firstTouched` finds, and that is the lowest touched row's lowest set bit. -/
theorem scanReportsTheLowestTouchedCell : Obligations.ScanReportsTheLowestTouchedCell := by
  intro p b
  refine ⟨fun hzero => ?_, fun r c hrows hbit hcols => ?_, (b.isPressed_answer_iff p).mpr⟩
  · exact b.isPressed_of_firstTouched_eq_none p (firstTouched_eq_none.mpr hzero)
  · exact b.isPressed_of_firstTouched_eq_some p (firstTouched_eq_some.mpr ⟨hbit, hrows, hcols⟩)

/-- Settles O41: each of the three ports decodes to its register's write, which is the latch of that register. -/
theorem touchpadControlWritesLatchTheByte : Obligations.TouchpadControlWritesLatchTheByte := by
  intro s d hs
  exact ⟨⟨decode_spellIow_tpPort s.inst .rowsel d, exec_writeInstr hs .rowsel d⟩,
    ⟨decode_spellIow_tpPort s.inst .mode d, exec_writeInstr hs .mode d⟩,
    ⟨decode_spellIow_tpPort s.inst .unused d, exec_writeInstr hs .unused d⟩⟩

/-- Settles O44: the coordinate port decodes to readCoordinate, whose column-select is the bit `CSEL_MASK` of `CSEL_REG`. -/
theorem coordinateReadFollowsColumnSelect : Obligations.CoordinateReadFollowsColumnSelect := by
  intro s hs creg
  have hcreg : s.blk.tp s.params.cselReg = creg := by
    cases hreg : s.params.cselReg <;> simp [creg, hreg, Block.tp]
  refine ⟨decode_spellIor_pTpCoord s.inst, ?_⟩
  rw [exec_iorTpCoord hs, Block.readCoordinate_eq, hcreg]
  rfl

end Sys2Proof.Machine
end

section
/-! PROOFS. The port map read in both directions: the port a window's operation spells is dispatched back to it, and the operation a port is
dispatched to spells that port. -/

namespace Sys2Proof

/-! ### Windows (41_dispatcher.md R95) -/

/-- The low bits of a port of a window, put on the window's base, give the port back. -/
theorem windowPort_setWidth {n : Nat} {base a : Port} (hbase : base.setWidth n = 0#n) (h : inWindow base n a = true) :
    windowPort base (a.setWidth n) = a := by
  refine BitVec.eq_of_getLsbD_eq fun i hi => ?_
  rw [windowPort, BitVec.getLsbD_or, BitVec.getLsbD_setWidth, BitVec.getLsbD_setWidth]
  by_cases hin : i < n
  · have hlow : base.getLsbD i = false := by simpa [hin] using congrArg (BitVec.getLsbD · i) hbase
    rw [hlow]
    simp [hin, hi]
  · have hhigh : a.getLsbD i = base.getLsbD i := by
      have hshift : a >>> n = base >>> n := by simpa [inWindow] using h
      simpa [Nat.add_sub_cancel' (Nat.le_of_not_lt hin)] using congrArg (BitVec.getLsbD · (i - n)) hshift
    simp [hhigh, hin]

/-- A port that no row of fixed ports claims is one of `FREE` (00_scope.md R7). -/
theorem mem_freePorts_of_unclaimed : ∀ a : Port,
    ¬ inWindow Config.vdpBase 2 a = true → ¬ inWindow Config.ppiBase 2 a = true → ¬ inWindow Config.sioBase 1 a = true →
    ¬ a = Config.unid0A → ¬ a = Config.spkCtl → ¬ a = Config.psgPort → ¬ inWindow Config.unid0E 1 a = true →
    ¬ inWindow Config.spkDataBase 1 a = true → ¬ a = Config.unid1F → ¬ inWindow Config.expBase 5 a = true →
    ¬ inWindow Config.unmapped40 6 a = true → ¬ inWindow Config.unmapped80 7 a = true → a ∈ Config.freePorts := by
  decide

/-! ### The fixed rows, dispatched -/

/-- The write operation in the same row of fixed ports as a read operation (41_dispatcher.md R95). -/
def Instr.writeCounterpart (d : Byte) : Instr → Instr
  | .iorVdp off => .iowVdp off d
  | .iorPpi off => .iowPpi off d
  | .iorSio off => .iowSio off d
  | .iorUnmapped0A => .iowUnid0A d
  | .iorSpkctl => .iowSpkctl d
  | .iorPsg => .iowPsg d
  | .iorUnmapped0E0F off => .iowUnid0E0F off d
  | .iorSpkdata mirror => .iowSpkdata mirror d
  | .iorUnmapped1F => .iowUnid1F d
  | .iorExp off => .iowExp off d
  | .iorUnmapped407F off => .iowUnmapped407F off d
  | .iorUnmapped80FF off => .iowUnmapped80FF off d
  | i => i

/-- Outside `FREE` the parameters do not reach the dispatcher for reads. -/
theorem readHandler_congr (p q : Params) {a : Port} (h : a ∉ Config.freePorts) : readHandler p a = readHandler q a := by
  unfold readHandler
  iterate 12 refine ite_congr rfl (fun _ => rfl) fun _ => ?_
  exact absurd (mem_freePorts_of_unclaimed a ‹_› ‹_› ‹_› ‹_› ‹_› ‹_› ‹_› ‹_› ‹_› ‹_› ‹_› ‹_›) h

/-- Outside `FREE` the two dispatchers choose the same row. -/
theorem writeHandler_eq_writeCounterpart (p : Params) {a : Port} (d : Byte) (h : a ∉ Config.freePorts) :
    writeHandler p a d = (readHandler p a).writeCounterpart d := by
  unfold readHandler writeHandler
  iterate 12
    rw [apply_ite (Instr.writeCounterpart d)]
    refine ite_congr rfl (fun _ => rfl) fun _ => ?_
  exact absurd (mem_freePorts_of_unclaimed a ‹_› ‹_› ‹_› ‹_› ‹_› ‹_› ‹_› ‹_› ‹_› ‹_› ‹_› ‹_›) h

/-- A port outside `FREE` can be dispatched under the test instantiation to see what every instantiation gives it. -/
theorem handlers_of_t1 {a : Port} {i : Instr} (h : a ∉ Config.freePorts ∧ readHandler Params.t1 a = i) (p : Params) :
    readHandler p a = i ∧ ∀ d, writeHandler p a d = i.writeCounterpart d := by
  obtain ⟨hfree, hi⟩ := h
  have hread : readHandler p a = i := (readHandler_congr p Params.t1 hfree).trans hi
  exact ⟨hread, fun d => by rw [writeHandler_eq_writeCounterpart p d hfree, hread]⟩

theorem handlers_vdp (p : Params) (off : BitVec 2) :
    readHandler p (windowPort Config.vdpBase off) = .iorVdp off ∧
      ∀ d, writeHandler p (windowPort Config.vdpBase off) d = .iowVdp off d :=
  handlers_of_t1 (by revert off; decide) p

theorem handlers_ppi (p : Params) (off : BitVec 2) :
    readHandler p (windowPort Config.ppiBase off) = .iorPpi off ∧
      ∀ d, writeHandler p (windowPort Config.ppiBase off) d = .iowPpi off d :=
  handlers_of_t1 (by revert off; decide) p

theorem handlers_sio (p : Params) (off : BitVec 1) :
    readHandler p (windowPort Config.sioBase off) = .iorSio off ∧
      ∀ d, writeHandler p (windowPort Config.sioBase off) d = .iowSio off d :=
  handlers_of_t1 (by revert off; decide) p

theorem handlers_unid0E0F (p : Params) (off : BitVec 1) :
    readHandler p (windowPort Config.unid0E off) = .iorUnmapped0E0F off ∧
      ∀ d, writeHandler p (windowPort Config.unid0E off) d = .iowUnid0E0F off d :=
  handlers_of_t1 (by revert off; decide) p

theorem handlers_spkData (p : Params) (mirror : BitVec 1) :
    readHandler p (windowPort Config.spkDataBase mirror) = .iorSpkdata mirror ∧
      ∀ d, writeHandler p (windowPort Config.spkDataBase mirror) d = .iowSpkdata mirror d :=
  handlers_of_t1 (by revert mirror; decide) p

theorem handlers_exp (p : Params) (off : BitVec 5) :
    readHandler p (windowPort Config.expBase off) = .iorExp off ∧
      ∀ d, writeHandler p (windowPort Config.expBase off) d = .iowExp off d :=
  handlers_of_t1 (by revert off; decide) p

theorem handlers_unmapped407F (p : Params) (off : BitVec 6) :
    readHandler p (windowPort Config.unmapped40 off) = .iorUnmapped407F off ∧
      ∀ d, writeHandler p (windowPort Config.unmapped40 off) d = .iowUnmapped407F off d :=
  handlers_of_t1 (by revert off; decide) p

theorem handlers_unmapped80FF (p : Params) (off : BitVec 7) :
    readHandler p (windowPort Config.unmapped80 off) = .iorUnmapped80FF off ∧
      ∀ d, writeHandler p (windowPort Config.unmapped80 off) d = .iowUnmapped80FF off d :=
  handlers_of_t1 (by revert off; decide) p

/-! ### The ports of `FREE`, dispatched -/

/-- The dispatcher gives each control port the read of its register, unless it is the coordinate port (42_touchpad.md R123). -/
theorem Instantiation.freeReadHandler_tpPort (c : Instantiation) {r : TpReg} (h : c.params.tpPort r ≠ c.params.pTpCoord) :
    freeReadHandler c.params (c.params.tpPort r) = .iorTpCtrl r := by
  obtain ⟨henable, hselect⟩ := c.tpPort_ne_interruptPorts r
  rw [freeReadHandler, if_neg henable, if_neg hselect, if_neg h]
  cases r with
  | rowsel => exact if_pos rfl
  | mode =>
    have hrowsel : c.params.tpPort .mode ≠ c.params.pTpRowsel := fun h => nomatch c.tpPort_injective (r' := .rowsel) h
    rw [if_neg hrowsel]
    exact if_pos rfl
  | unused =>
    have hrowsel : c.params.tpPort .unused ≠ c.params.pTpRowsel := fun h => nomatch c.tpPort_injective (r' := .rowsel) h
    have hmode : c.params.tpPort .unused ≠ c.params.pTpMode := fun h => nomatch c.tpPort_injective (r' := .mode) h
    rw [if_neg hrowsel, if_neg hmode]
    exact if_pos rfl

theorem Params.takenForRead_eq_false {p : Params} {a : Port} :
    p.takenForRead a = false ↔ a ≠ p.pIntEnable ∧ a ≠ p.pIntSelect ∧ a ≠ p.pTpCoord ∧ a ≠ p.pTpRowsel ∧ a ≠ p.pTpMode ∧
      a ≠ p.pTpUnused := by
  simp [Params.takenForRead, and_assoc]

theorem Params.takenForWrite_eq_false {p : Params} {a : Port} :
    p.takenForWrite a = false ↔ a ≠ p.pIntEnable ∧ a ≠ p.pIntSelect ∧ a ≠ p.pTpRowsel ∧ a ≠ p.pTpMode ∧ a ≠ p.pTpUnused := by
  simp [Params.takenForWrite, and_assoc]

/-- A free port that no parameter takes for reading is unmapped for reads (41_dispatcher.md R111). -/
theorem readHandler_of_untaken {p : Params} {a : Port} (hfree : a ∈ Config.freePorts) (h : p.takenForRead a = false) :
    readHandler p a = .iorUnmappedFree a := by
  obtain ⟨henable, hselect, hcoord, hrowsel, hmode, hunused⟩ := Params.takenForRead_eq_false.mp h
  rw [readHandler_of_mem_freePorts p hfree, freeReadHandler, if_neg henable, if_neg hselect, if_neg hcoord, if_neg hrowsel,
    if_neg hmode, if_neg hunused]

/-- A free port that no parameter takes for writing is unmapped for writes (41_dispatcher.md R112). -/
theorem writeHandler_of_untaken {p : Params} {a : Port} (d : Byte) (hfree : a ∈ Config.freePorts)
    (h : p.takenForWrite a = false) : writeHandler p a d = .iowUnmappedFree a d := by
  obtain ⟨henable, hselect, hrowsel, hmode, hunused⟩ := Params.takenForWrite_eq_false.mp h
  rw [writeHandler_of_mem_freePorts p d hfree, freeWriteHandler, if_neg henable, if_neg hselect, if_neg hrowsel,
    if_neg hmode, if_neg hunused]

/-- A read of the enable register's port has its own handler (40_interrupt.md R83). -/
theorem Instantiation.readHandler_pIntEnable (c : Instantiation) :
    readHandler c.params c.params.pIntEnable = .iorIntEnable := by
  obtain ⟨hfree, _⟩ := c.writePorts_free_and_nodup
  rw [readHandler_of_mem_freePorts _ (hfree _ (by simp)), freeReadHandler, if_pos rfl]

/-- A read of the select register's port has its own handler: the two ports differ (40_interrupt.md R85). -/
theorem Instantiation.readHandler_pIntSelect (c : Instantiation) :
    readHandler c.params c.params.pIntSelect = .iorIntSelect := by
  obtain ⟨hfree, hnodup⟩ := c.writePorts_free_and_nodup
  have hne : c.params.pIntSelect ≠ c.params.pIntEnable := fun h => (List.nodup_cons.mp hnodup).1 (by simp [h])
  rw [readHandler_of_mem_freePorts _ (hfree _ (by simp)), freeReadHandler, if_neg hne, if_pos rfl]

/-- A read of a control port other than the coordinate port has the handler of its register (42_touchpad.md R123). -/
theorem Instantiation.readHandler_tpPort (c : Instantiation) {r : TpReg} (h : c.params.tpPort r ≠ c.params.pTpCoord) :
    readHandler c.params (c.params.tpPort r) = .iorTpCtrl r := by
  rw [readHandler_of_mem_freePorts _ (c.tpPort_mem_freePorts r), c.freeReadHandler_tpPort h]

/-! ### What a port is dispatched to spells that port -/

/-- The operation is well-formed and this is its word. -/
def Instr.Spells (p : Params) (w : Word) (i : Instr) : Prop := i.wellFormed p = true ∧ encode p i = w

/-- A choice between two operations spells a word when the chosen one does. -/
theorem spells_ite {c : Prop} [Decidable c] {p : Params} {w : Word} {i j : Instr} (hi : c → i.Spells p w)
    (hj : ¬ c → j.Spells p w) : (if c then i else j).Spells p w :=
  iteInduction hi hj

theorem freeReadHandler_spells (p : Params) {a : Port} (hfree : a ∈ Config.freePorts) :
    (freeReadHandler p a).Spells p (iorWord a) := by
  unfold freeReadHandler
  split_ifs with henable hselect hcoord hrowsel hmode hunused
  · exact ⟨rfl, by rw [henable]; rfl⟩
  · exact ⟨rfl, by rw [hselect]; rfl⟩
  · exact ⟨rfl, by rw [hcoord]; rfl⟩
  · exact ⟨by simpa [Instr.wellFormed, Params.tpPort, ← hrowsel] using hcoord, by rw [hrowsel]; rfl⟩
  · exact ⟨by simpa [Instr.wellFormed, Params.tpPort, ← hmode] using hcoord, by rw [hmode]; rfl⟩
  · exact ⟨by simpa [Instr.wellFormed, Params.tpPort, ← hunused] using hcoord, by rw [hunused]; rfl⟩
  · have huntaken : p.takenForRead a = false :=
      Params.takenForRead_eq_false.mpr ⟨henable, hselect, hcoord, hrowsel, hmode, hunused⟩
    exact ⟨by simp [Instr.wellFormed, hfree, huntaken], rfl⟩

theorem freeWriteHandler_spells (p : Params) {a : Port} (d : Byte) (hfree : a ∈ Config.freePorts) :
    (freeWriteHandler p a d).Spells p (iowWord a d) := by
  unfold freeWriteHandler
  split_ifs with henable hselect hrowsel hmode hunused
  · exact ⟨rfl, by rw [henable]; rfl⟩
  · exact ⟨rfl, by rw [hselect]; rfl⟩
  · exact ⟨rfl, by rw [hrowsel]; rfl⟩
  · exact ⟨rfl, by rw [hmode]; rfl⟩
  · exact ⟨rfl, by rw [hunused]; rfl⟩
  · have huntaken : p.takenForWrite a = false :=
      Params.takenForWrite_eq_false.mpr ⟨henable, hselect, hrowsel, hmode, hunused⟩
    exact ⟨by simp [Instr.wellFormed, hfree, huntaken], rfl⟩

/-- The read handler of every port spells the read of that port (41_dispatcher.md R93, R95). -/
theorem readHandler_spells (p : Params) (a : Port) : (readHandler p a).Spells p (iorWord a) := by
  unfold readHandler
  refine spells_ite (fun h => ⟨rfl, congrArg iorWord (windowPort_setWidth rfl h)⟩) fun hvdp => ?_
  refine spells_ite (fun h => ⟨rfl, congrArg iorWord (windowPort_setWidth rfl h)⟩) fun hppi => ?_
  refine spells_ite (fun h => ⟨rfl, congrArg iorWord (windowPort_setWidth rfl h)⟩) fun hsio => ?_
  refine spells_ite (fun h => ⟨rfl, congrArg iorWord h.symm⟩) fun h0A => ?_
  refine spells_ite (fun h => ⟨rfl, congrArg iorWord h.symm⟩) fun hspk => ?_
  refine spells_ite (fun h => ⟨rfl, congrArg iorWord h.symm⟩) fun hpsg => ?_
  refine spells_ite (fun h => ⟨rfl, congrArg iorWord (windowPort_setWidth rfl h)⟩) fun h0E => ?_
  refine spells_ite (fun h => ⟨rfl, congrArg iorWord (windowPort_setWidth rfl h)⟩) fun hdata => ?_
  refine spells_ite (fun h => ⟨rfl, congrArg iorWord h.symm⟩) fun h1F => ?_
  refine spells_ite (fun h => ⟨rfl, congrArg iorWord (windowPort_setWidth rfl h)⟩) fun hexp => ?_
  refine spells_ite (fun h => ⟨rfl, congrArg iorWord (windowPort_setWidth rfl h)⟩) fun h40 => ?_
  refine spells_ite (fun h => ⟨rfl, congrArg iorWord (windowPort_setWidth rfl h)⟩) fun h80 => ?_
  exact freeReadHandler_spells p
    (mem_freePorts_of_unclaimed a hvdp hppi hsio h0A hspk hpsg h0E hdata h1F hexp h40 h80)

/-- The write handler of every port spells the write of that port (41_dispatcher.md R93, R95). -/
theorem writeHandler_spells (p : Params) (a : Port) (d : Byte) : (writeHandler p a d).Spells p (iowWord a d) := by
  unfold writeHandler
  refine spells_ite (fun h => ⟨rfl, congrArg (iowWord · d) (windowPort_setWidth rfl h)⟩) fun hvdp => ?_
  refine spells_ite (fun h => ⟨rfl, congrArg (iowWord · d) (windowPort_setWidth rfl h)⟩) fun hppi => ?_
  refine spells_ite (fun h => ⟨rfl, congrArg (iowWord · d) (windowPort_setWidth rfl h)⟩) fun hsio => ?_
  refine spells_ite (fun h => ⟨rfl, congrArg (iowWord · d) h.symm⟩) fun h0A => ?_
  refine spells_ite (fun h => ⟨rfl, congrArg (iowWord · d) h.symm⟩) fun hspk => ?_
  refine spells_ite (fun h => ⟨rfl, congrArg (iowWord · d) h.symm⟩) fun hpsg => ?_
  refine spells_ite (fun h => ⟨rfl, congrArg (iowWord · d) (windowPort_setWidth rfl h)⟩) fun h0E => ?_
  refine spells_ite (fun h => ⟨rfl, congrArg (iowWord · d) (windowPort_setWidth rfl h)⟩) fun hdata => ?_
  refine spells_ite (fun h => ⟨rfl, congrArg (iowWord · d) h.symm⟩) fun h1F => ?_
  refine spells_ite (fun h => ⟨rfl, congrArg (iowWord · d) (windowPort_setWidth rfl h)⟩) fun hexp => ?_
  refine spells_ite (fun h => ⟨rfl, congrArg (iowWord · d) (windowPort_setWidth rfl h)⟩) fun h40 => ?_
  refine spells_ite (fun h => ⟨rfl, congrArg (iowWord · d) (windowPort_setWidth rfl h)⟩) fun h80 => ?_
  exact freeWriteHandler_spells p d
    (mem_freePorts_of_unclaimed a hvdp hppi hsio h0A hspk hpsg h0E hdata h1F hexp h40 h80)

end Sys2Proof
end

section
/-! PROOFS. The statements of 30_encoding.md: the encoder and the decoder undo each other, and the decoder refuses the reserved words alone. -/

namespace Sys2Proof

/-! ### The written words are the encoder's (30_encoding.md R76) -/

theorem spellEdgeVideo_eq_edgeWord (l : Bool) : spellEdgeVideo l = edgeWord 0b00#2 l := by
  cases l <;> rfl

theorem spellEdgeSpeech_eq_edgeWord (l : Bool) : spellEdgeSpeech l = edgeWord 0b01#2 l := by
  cases l <;> rfl

theorem spellRow_eq_rowWord (r : Fin 20) (c : Row) : spellRow r c = rowWord r c := by
  have hr := r.isLt
  have hc := c.isLt
  have hshift : (BitVec.ofNat 32 r.val <<< 24).toNat = r.val <<< 24 := by
    simp [BitVec.toNat_shiftLeft, Nat.shiftLeft_eq]; omega
  have hjoin : 0x80 + r.val = 0x80 ||| r.val := Nat.two_pow_add_eq_or_of_lt (i := 7) (by omega) 1
  refine BitVec.eq_of_toNat_eq ?_
  calc (spellRow r c).toNat
      = 0x80 <<< 24 ||| r.val <<< 24 ||| c.toNat := by
        simp [spellRow, hshift, Nat.mod_eq_of_lt (show c.toNat < 4294967296 by omega)]
    _ = (0x80 + r.val) <<< 24 + c.toNat := by
      rw [Nat.shiftLeft_add_eq_or_of_lt hc, hjoin, Nat.shiftLeft_or_distrib]
    _ = (rowWord r c).toNat := by rw [toNat_rowWord, Nat.shiftLeft_eq]; omega

/-! ### Decoding the words without a port -/

theorem decode_spellEdgeVideo (p : Params) (l : Bool) : decode p (spellEdgeVideo l) = .ok (.edgeVideo l) := by
  rw [spellEdgeVideo_eq_edgeWord, decode_edgeWord]
  rfl

theorem decode_spellEdgeSpeech (p : Params) (l : Bool) : decode p (spellEdgeSpeech l) = .ok (.edgeSpeech l) := by
  rw [spellEdgeSpeech_eq_edgeWord, decode_edgeWord]
  rfl

theorem rowField_rowWord (r : Fin 20) (c : Row) : ((rowWord r c).extractLsb' 24 5).toNat = r.val := by
  have hr := r.isLt
  have hc := c.isLt
  rw [toNat_field, toNat_rowWord]
  omega

theorem columnsField_rowWord (r : Fin 20) (c : Row) : (rowWord r c).extractLsb' 0 24 = c :=
  field_eq (by rw [toNat_rowWord]; have := c.isLt; omega)

/-- A ROW word decodes to the touch input of its row and its columns (30_encoding.md R67). -/
theorem decode_rowWord (p : Params) (r : Fin 20) (c : Row) : decode p (rowWord r c) = .ok (.row r c) := by
  have hclass : decode p (rowWord r c) = decodeRow (rowWord r c) := by simp [decode]
  have hrow := rowField_rowWord r c
  have hlt : ((rowWord r c).extractLsb' 24 5).toNat < 20 := hrow ▸ r.isLt
  rw [hclass, decodeRow, dif_pos hlt, columnsField_rowWord]
  exact congrArg (fun q => Except.ok (Instr.row q c)) (Fin.ext hrow)

/-- The words of the classes without operands decode whatever the parameters are (30_encoding.md R66, R68, R69). -/
theorem decode_bareWord (p : Params) :
    decode p (bareWord .inta) = .ok .inta ∧ decode p (bareWord .pbin) = .ok .pbin ∧ decode p (bareWord .pain) = .ok .pain :=
  ⟨rfl, rfl, rfl⟩

/-! ### A word is the join of its fields -/

/-- A field's value, read as a quotient and a remainder. -/
theorem field_toNat {w : Word} {start len : Nat} {v : BitVec len} (h : w.extractLsb' start len = v) :
    w.toNat / 2 ^ start % 2 ^ len = v.toNat := by
  rw [← toNat_field, h]

theorem classField_toNat {w : Word} {k : OpClass} (h : classField w = k.code) : w.toNat / 2 ^ 29 = k.code.toNat := by
  rw [← toNat_classField, h]

theorem toNat_getLsbD (w : Word) (i : Nat) : (w.getLsbD i).toNat = w.toNat / 2 ^ i % 2 := by
  rw [getLsbD_field]
  rcases Nat.mod_two_eq_zero_or_one (w.toNat / 2 ^ i) with h | h <;> simp [h]

theorem iorWord_portField {w : Word} (hk : classField w = OpClass.ior.code) (hhigh : w.extractLsb' 16 13 = 0#13)
    (hlow : w.extractLsb' 0 8 = 0#8) : iorWord (portField w) = w := by
  have hk := classField_toNat hk
  have hhigh := field_toNat hhigh
  have hlow := field_toNat hlow
  simp only [OpClass.code, BitVec.toNat_ofNat] at hk hhigh hlow
  refine BitVec.eq_of_toNat_eq ?_
  rw [toNat_iorWord, toNat_portField]
  omega

theorem iowWord_fields {w : Word} (hk : classField w = OpClass.iow.code) (hhigh : w.extractLsb' 16 13 = 0#13) :
    iowWord (portField w) (dataField w) = w := by
  have hk := classField_toNat hk
  have hhigh := field_toNat hhigh
  simp only [OpClass.code, BitVec.toNat_ofNat] at hk hhigh
  refine BitVec.eq_of_toNat_eq ?_
  rw [toNat_iowWord, toNat_portField, toNat_dataField]
  omega

theorem edgeWord_fields {w : Word} (hk : classField w = OpClass.edge.code) (hhigh : w.extractLsb' 10 19 = 0#19)
    (hmid : w.extractLsb' 1 7 = 0#7) : edgeWord (w.extractLsb' 8 2) (w.getLsbD 0) = w := by
  have hk := classField_toNat hk
  have hhigh := field_toNat hhigh
  have hmid := field_toNat hmid
  simp only [OpClass.code, BitVec.toNat_ofNat] at hk hhigh hmid
  refine BitVec.eq_of_toNat_eq ?_
  rw [toNat_edgeWord, toNat_field, toNat_getLsbD]
  omega

theorem bareWord_of_classField {w : Word} {k : OpClass} (hk : classField w = k.code) (hlow : w.extractLsb' 0 29 = 0#29) :
    bareWord k = w := by
  have hk := classField_toNat hk
  have hlow := field_toNat hlow
  simp only [BitVec.toNat_ofNat] at hlow
  refine BitVec.eq_of_toNat_eq ?_
  rw [toNat_bareWord, ← hk]
  omega

theorem rowWord_fields {w : Word} (hk : classField w = OpClass.row.code) {r : Fin 20}
    (hr : (w.extractLsb' 24 5).toNat = r.val) : rowWord r (w.extractLsb' 0 24) = w := by
  have hk := classField_toNat hk
  have hcols := toNat_field w 0 24
  rw [toNat_field] at hr
  simp only [OpClass.code, BitVec.toNat_ofNat] at hk
  refine BitVec.eq_of_toNat_eq ?_
  rw [toNat_rowWord, hcols]
  omega

theorem pcWord_fields {w : Word} (hk : classField w = OpClass.pc.code) (hhigh : w.extractLsb' 9 20 = 0#20) :
    pcWord (w.getLsbD 8) (dataField w) = w := by
  have hk := classField_toNat hk
  have hhigh := field_toNat hhigh
  simp only [OpClass.code, BitVec.toNat_ofNat] at hk hhigh
  refine BitVec.eq_of_toNat_eq ?_
  rw [toNat_pcWord, toNat_getLsbD, toNat_dataField]
  omega

/-! ### What each class's decoder accepts, it spells -/

/-- The class that the decoder dispatches a word to has the word's class field as its code. -/
theorem classField_of_ofCode {w : Word} {k : OpClass} (h : OpClass.ofCode (classField w) = k) : classField w = k.code := by
  rw [← h, OpClass.code_ofCode]

theorem spells_of_decodeIor {p : Params} {w : Word} {i : Instr} (hk : classField w = OpClass.ior.code)
    (h : decodeIor p w = .ok i) : i.Spells p w := by
  unfold decodeIor at h
  split at h
  · rename_i hres
    cases h
    simpa only [iorWord_portField hk hres.1 hres.2] using readHandler_spells p (portField w)
  · cases h

theorem spells_of_decodeIow {p : Params} {w : Word} {i : Instr} (hk : classField w = OpClass.iow.code)
    (h : decodeIow p w = .ok i) : i.Spells p w := by
  unfold decodeIow at h
  split at h
  · rename_i hres
    cases h
    simpa only [iowWord_fields hk hres] using writeHandler_spells p (portField w) (dataField w)
  · cases h

theorem spells_of_decodeEdge {p : Params} {w : Word} {i : Instr} (hk : classField w = OpClass.edge.code)
    (h : decodeEdge w = .ok i) : i.Spells p w := by
  unfold decodeEdge at h
  split at h
  · rename_i hres
    have hword := edgeWord_fields hk hres.1 hres.2
    split_ifs at h with hvideo hspeech hbusy
    · cases h; exact ⟨rfl, by rw [hvideo] at hword; exact hword⟩
    · cases h; exact ⟨rfl, by rw [hspeech] at hword; exact hword⟩
    · cases h; exact ⟨rfl, by rw [hbusy] at hword; exact hword⟩
  · cases h

theorem spells_of_decodeBare {p : Params} {w : Word} {i j : Instr} (hj : j.Spells p (bareWord j.opClass))
    (hk : classField w = j.opClass.code) (h : decodeBare j w = .ok i) : i.Spells p w := by
  unfold decodeBare at h
  split at h
  · rename_i hres
    cases h
    exact bareWord_of_classField hk hres ▸ hj
  · cases h

theorem spells_of_decodeRow {p : Params} {w : Word} {i : Instr} (hk : classField w = OpClass.row.code)
    (h : decodeRow w = .ok i) : i.Spells p w := by
  unfold decodeRow at h
  split at h
  · rename_i hrow
    cases h
    exact ⟨rfl, rowWord_fields hk rfl⟩
  · cases h

theorem spells_of_decodePc {p : Params} {w : Word} {i : Instr} (hk : classField w = OpClass.pc.code)
    (h : decodePc w = .ok i) : i.Spells p w := by
  unfold decodePc at h
  split at h
  · rename_i hres
    have hword := pcWord_fields hk hres
    split_ifs at h with hout hin
    · cases h; exact ⟨rfl, by rw [hout] at hword; exact hword⟩
    · cases h; exact ⟨rfl, by rw [← hword, hin, Bool.eq_false_of_not_eq_true hout]; rfl⟩
  · cases h

/-- A word that decodes is the word of the well-formed operation it decodes to. -/
theorem spells_of_decode {p : Params} {w : Word} {i : Instr} (h : decode p w = .ok i) : i.Spells p w := by
  unfold decode at h
  split at h <;> rename_i hk <;> have hk := classField_of_ofCode hk
  · exact spells_of_decodeIor hk h
  · exact spells_of_decodeIow hk h
  · exact spells_of_decodeEdge hk h
  · exact spells_of_decodeBare (j := .inta) ⟨rfl, rfl⟩ hk h
  · exact spells_of_decodeRow hk h
  · exact spells_of_decodeBare (j := .pbin) ⟨rfl, rfl⟩ hk h
  · exact spells_of_decodeBare (j := .pain) ⟨rfl, rfl⟩ hk h
  · exact spells_of_decodePc hk h

/-! ### The word of every well-formed operation decodes to it -/

/-- A read operation that its port is dispatched to is read back from the word of the port. -/
theorem decode_iorWord_of_handler {p : Params} {a : Port} {i : Instr} (h : readHandler p a = i) :
    decode p (iorWord a) = .ok i := by
  rw [decode_iorWord, h]

/-- A write operation that its port is dispatched to is read back from the word of the port and the byte. -/
theorem decode_iowWord_of_handler {p : Params} {a : Port} {d : Byte} {i : Instr} (h : writeHandler p a d = i) :
    decode p (iowWord a d) = .ok i := by
  rw [decode_iowWord, h]

/-- An operation whose encoded word has a written form is read back from it when it is read back from the written form. -/
theorem decode_encode_of_spelled {p : Params} {w : Word} {i : Instr} (hw : w = encode p i) (h : decode p w = .ok i) :
    decode p (encode p i) = .ok i :=
  hw ▸ h

/-- Every well-formed operation is read back from its word. -/
theorem decode_encode (c : Instantiation) (i : Instr) (hwf : i.wellFormed c.params = true) :
    decode c.params (encode c.params i) = .ok i := by
  cases i with
  | iorVdp off => exact decode_iorWord_of_handler (handlers_vdp _ off).1
  | iowVdp off d => exact decode_iowWord_of_handler ((handlers_vdp _ off).2 d)
  | iorPpi off => exact decode_iorWord_of_handler (handlers_ppi _ off).1
  | iowPpi off d => exact decode_iowWord_of_handler ((handlers_ppi _ off).2 d)
  | iorSio off => exact decode_iorWord_of_handler (handlers_sio _ off).1
  | iowSio off d => exact decode_iowWord_of_handler ((handlers_sio _ off).2 d)
  | iorUnmapped0E0F off => exact decode_iorWord_of_handler (handlers_unid0E0F _ off).1
  | iowUnid0E0F off d => exact decode_iowWord_of_handler ((handlers_unid0E0F _ off).2 d)
  | iorSpkdata mirror => exact decode_iorWord_of_handler (handlers_spkData _ mirror).1
  | iowSpkdata mirror d => exact decode_iowWord_of_handler ((handlers_spkData _ mirror).2 d)
  | iorExp off => exact decode_iorWord_of_handler (handlers_exp _ off).1
  | iowExp off d => exact decode_iowWord_of_handler ((handlers_exp _ off).2 d)
  | iorUnmapped407F off => exact decode_iorWord_of_handler (handlers_unmapped407F _ off).1
  | iowUnmapped407F off d => exact decode_iowWord_of_handler ((handlers_unmapped407F _ off).2 d)
  | iorUnmapped80FF off => exact decode_iorWord_of_handler (handlers_unmapped80FF _ off).1
  | iowUnmapped80FF off d => exact decode_iowWord_of_handler ((handlers_unmapped80FF _ off).2 d)
  | iorUnmapped0A | iorSpkctl | iorPsg | iorUnmapped1F => exact decode_iorWord_of_handler rfl
  | iowUnid0A | iowSpkctl | iowPsg | iowUnid1F => exact decode_iowWord_of_handler rfl
  | iowIntEnable d => exact decode_encode_of_spelled (spellIow_eq_iowWord _ d) (decode_spellIow_pIntEnable c d)
  | iorIntEnable => exact decode_iorWord_of_handler c.readHandler_pIntEnable
  | iowIntSelect d => exact decode_encode_of_spelled (spellIow_eq_iowWord _ d) (decode_spellIow_pIntSelect c d)
  | iorIntSelect => exact decode_iorWord_of_handler c.readHandler_pIntSelect
  | iowTpRowsel d => exact decode_encode_of_spelled (spellIow_eq_iowWord _ d) (decode_spellIow_tpPort c .rowsel d)
  | iowTpMode d => exact decode_encode_of_spelled (spellIow_eq_iowWord _ d) (decode_spellIow_tpPort c .mode d)
  | iowTpUnused d => exact decode_encode_of_spelled (spellIow_eq_iowWord _ d) (decode_spellIow_tpPort c .unused d)
  | iorTpCoord => exact decode_encode_of_spelled (spellIor_eq_iorWord _) (decode_spellIor_pTpCoord c)
  | iorTpCtrl r => exact decode_iorWord_of_handler (c.readHandler_tpPort (by simpa [Instr.wellFormed] using hwf))
  | iorUnmappedFree a =>
    simp only [Instr.wellFormed, Bool.and_eq_true, decide_eq_true_eq, Bool.not_eq_true'] at hwf
    exact decode_iorWord_of_handler (readHandler_of_untaken hwf.1 hwf.2)
  | iowUnmappedFree a d =>
    simp only [Instr.wellFormed, Bool.and_eq_true, decide_eq_true_eq, Bool.not_eq_true'] at hwf
    exact decode_iowWord_of_handler (writeHandler_of_untaken d hwf.1 hwf.2)
  | edgeVideo l => exact decode_encode_of_spelled (spellEdgeVideo_eq_edgeWord l) (decode_spellEdgeVideo _ l)
  | edgeSpeech l => exact decode_encode_of_spelled (spellEdgeSpeech_eq_edgeWord l) (decode_spellEdgeSpeech _ l)
  | edgeBusy l => exact decode_encode_of_spelled (spellEdgeBusy_eq_edgeWord l) (decode_spellEdgeBusy _ l)
  | inta => exact (decode_bareWord _).1
  | row r c => exact decode_rowWord _ r c
  | pbin => exact (decode_bareWord _).2.1
  | pain => exact (decode_bareWord _).2.2
  | pcin => exact decode_pcWord _ false 0#8
  | pcout d => exact decode_pcWord _ true d

/-! ### What the decoder refuses -/

/-- A check before a decoder adds its own refusal to the decoder's. -/
theorem exists_error_ite {c : Prop} [Decidable c] {r : Except DecodeError Instr} {e₀ : DecodeError} :
    (∃ e, (if c then r else .error e₀) = .error e) ↔ ¬ c ∨ ∃ e, r = .error e := by
  by_cases hc : c <;> simp [hc]

theorem decodeIor_refuses (p : Params) (w : Word) :
    (∃ e, decodeIor p w = .error e) ↔ w.extractLsb' 16 13 ≠ 0#13 ∨ w.extractLsb' 0 8 ≠ 0#8 := by
  rw [decodeIor, exists_error_ite, not_and_or]
  simp

theorem decodeIow_refuses (p : Params) (w : Word) :
    (∃ e, decodeIow p w = .error e) ↔ w.extractLsb' 16 13 ≠ 0#13 := by
  rw [decodeIow, exists_error_ite]
  simp

/-- A two-bit source code that is none of the three wired ones is the reserved one (30_encoding.md R65). -/
theorem source_eq_reserved_iff : ∀ src : BitVec 2, (src ≠ 0b00#2 ∧ src ≠ 0b01#2 ∧ src ≠ 0b10#2) ↔ src = 0b11#2 := by
  decide

theorem decodeEdge_refuses (w : Word) :
    (∃ e, decodeEdge w = .error e) ↔
      w.extractLsb' 10 19 ≠ 0#19 ∨ w.extractLsb' 1 7 ≠ 0#7 ∨ w.extractLsb' 8 2 = 0b11#2 := by
  rw [decodeEdge, exists_error_ite, not_and_or, or_assoc, ← source_eq_reserved_iff]
  split_ifs with hvideo hspeech hbusy <;> simp [*]

theorem decodeBare_refuses (i : Instr) (w : Word) :
    (∃ e, decodeBare i w = .error e) ↔ w.extractLsb' 0 29 ≠ 0#29 := by
  rw [decodeBare, exists_error_ite]
  simp

theorem decodeRow_refuses (w : Word) : (∃ e, decodeRow w = .error e) ↔ 20 ≤ (w.extractLsb' 24 5).toNat := by
  unfold decodeRow
  split
  · rename_i h
    simpa using h
  · rename_i h
    simpa using h

theorem decodePc_refuses (w : Word) :
    (∃ e, decodePc w = .error e) ↔
      w.extractLsb' 9 20 ≠ 0#20 ∨ (w.getLsbD 8 = false ∧ w.extractLsb' 0 8 ≠ 0#8) := by
  rw [decodePc, exists_error_ite]
  cases hout : w.getLsbD 8 with
  | true => simp
  | false =>
    rw [if_neg Bool.false_ne_true, exists_error_ite]
    simp [dataField]

/-! ### The statements -/

/-- Settles O1, by cases on the operation: its word is the word of a port that is dispatched to it, or carries its operands in fields that the decoder
reads. -/
theorem decodeReadsBackEveryEncoding : Obligations.DecodeReadsBackEveryEncoding := decode_encode

/-- Settles O2, class by class: the reserved fields are zero, so the word is the join of the fields that the decoder reads. -/
theorem decodedWordIsTheEncoding : Obligations.DecodedWordIsTheEncoding := fun _ _ _ => spells_of_decode

/-- Settles O4: the class field chooses the format, and each format's decoder refuses its reserved fields alone. -/
theorem refusedWordsAreTheReservedOnes : Obligations.RefusedWordsAreTheReservedOnes := by
  intro c w
  unfold decode
  split <;> rename_i hk <;> have hcode : w.extractLsb' 29 3 = _ := classField_of_ofCode hk
  · simp [decodeIor_refuses, hcode, OpClass.code]
  · simp [decodeIow_refuses, hcode, OpClass.code]
  · simp [decodeEdge_refuses, hcode, OpClass.code]
  · simp [decodeBare_refuses, hcode, OpClass.code]
  · simp [decodeRow_refuses, hcode, OpClass.code]
  · simp [decodeBare_refuses, hcode, OpClass.code]
  · simp [decodeBare_refuses, hcode, OpClass.code]
  · simp [decodePc_refuses, hcode, OpClass.code]

/-- Settles O3: each written number is the join of fields that the encoder builds. -/
theorem encoderFollowsTheNotation : Obligations.EncoderFollowsTheNotation :=
  ⟨fun a => (spellIor_eq_iorWord a).symm, fun a d => (spellIow_eq_iowWord a d).symm,
    fun _ l => (spellEdgeVideo_eq_edgeWord l).symm, fun _ l => (spellEdgeSpeech_eq_edgeWord l).symm,
    fun _ l => (spellEdgeBusy_eq_edgeWord l).symm, fun _ => rfl, fun _ r c => (spellRow_eq_rowWord r c).symm,
    fun _ => rfl, fun _ => rfl, fun _ => rfl, fun _ d => (spellPcout_eq_pcWord d).symm⟩

/-- Settles O5: none of the sixteen words reads a parameter, so the decoder evaluates on each. -/
theorem sampleWordsDecode : Obligations.SampleWordsDecode := fun _ =>
  ⟨rfl, rfl, rfl, rfl, rfl, rfl, rfl, rfl, rfl, rfl, rfl, rfl, rfl, rfl, rfl, rfl⟩

end Sys2Proof
end

section
/-! PROOFS. The step, and which operations change which fields of the block: what the statements about every step cite. -/

namespace Sys2Proof.Machine

/-! ### The step -/

/-- A running block performs the operation that the next presented word spells. -/
theorem step_of_decode_ok {s : State} {w : Word} {rest : List Word} {i : Instr} (hs : s.running)
    (hin : s.io.inbox = w :: rest) (hd : decode s.params w = .ok i) :
    step s = exec i { s with io := { s.io with inbox := rest } } := by
  simp [step, hs, State.fetch, hin, hd]

theorem step_of_decode_error {s : State} {w : Word} {rest : List Word} {e : DecodeError} (hs : s.running)
    (hin : s.io.inbox = w :: rest) (hd : decode s.params w = .error e) : step s = .refused (.invalidWord e) := by
  simp [step, hs, State.fetch, hin, hd]

theorem step_idle {s : State} (hs : s.running) (hin : s.io.inbox = []) : step s = .next s := by
  simp [step, hs, State.fetch, hin]

theorem step_faulted {s : State} {r : FatalAck} (h : s.blk.fault = some r) : step s = .fault (.fatalAck r) := by
  simp [step, h]

theorem exec_faulted {s : State} {r : FatalAck} (h : s.blk.fault = some r) (i : Instr) :
    exec i s = .fault (.fatalAck r) := by
  obtain ⟨k, hk⟩ := exec_eq_operate i
  rw [hk, State.operate_faulted h]

/-- What holds of the block after a step and not before was brought about by the next operation's effect. -/
theorem exists_operation_of_change {s t : State} (h : step s = .next t) {Q : Block → Prop} (hs : ¬ Q s.blk) (ht : Q t.blk) :
    ∃ i, s.nextOperation = some i ∧ Q (blockEffect s.params (Config.ext .tapeBits s.io.tick) s.blk i) := by
  obtain ⟨_, _, _, ⟨_, rfl⟩ | ⟨i, hop, hb⟩⟩ := step_next h
  · exact absurd ht hs
  · exact ⟨i, hop, hb ▸ ht⟩

/-! ### The two effects that branch, framed -/

/-- An acknowledge writes no field but the pending mask, the vector, the line and the fault (40_interrupt.md R84). -/
theorem Block.acknowledge_frame (p : Params) (b : Block) : ∃ pending vector irq fault,
    (b.acknowledge p).1 = { b with pending := pending, vector := vector, irq := irq, fault := fault } := by
  rcases b.acknowledge_cases p with ⟨src, _, h⟩ | ⟨_, h⟩ <;> rw [h] <;> exact ⟨_, _, _, _, rfl⟩

/-- A port-B sample writes no field but the two coordinates (42_touchpad.md R125). -/
theorem Block.samplePortB_frame (p : Params) (tape : Byte) (b : Block) : ∃ x y,
    (b.samplePortB p tape).1 = { b with sampledX := x, sampledY := y } := by
  rcases b.samplePortB_cases p tape with ⟨_, h⟩ | ⟨_, h⟩ <;> rw [h]
  · rcases b.isPressed_cases p with ⟨r, c, _, h'⟩ | ⟨_, h'⟩ <;> rw [h'] <;> exact ⟨_, _, rfl⟩
  · exact ⟨_, _, rfl⟩

/-! ### The operations that change each field -/

variable {p : Params} {tape : Byte} {b : Block} {i : Instr}

theorem operation_of_pending_ne (h : (blockEffect p tape b i).pending ≠ b.pending) :
    i = .edgeVideo true ∨ i = .edgeSpeech true ∨ i = .inta := by
  cases i with
  | edgeVideo l =>
    cases l with
    | true => exact .inl rfl
    | false => exact absurd rfl h
  | edgeSpeech l =>
    cases l with
    | true => exact .inr (.inl rfl)
    | false => exact absurd rfl h
  | inta => exact .inr (.inr rfl)
  | pbin => exact absurd (congrArg InterruptPart.pending (samplePortB_interruptPart p tape b)) h
  | _ => exact absurd rfl h

theorem operation_of_irq_ne (h : (blockEffect p tape b i).irq ≠ b.irq) :
    (∃ l, i = .edgeVideo l) ∨ (∃ l, i = .edgeSpeech l) ∨ i = .inta ∨ ∃ d, i = .iowIntEnable d ∨ i = .iowIntSelect d := by
  cases i with
  | edgeVideo l => exact .inl ⟨l, rfl⟩
  | edgeSpeech l => exact .inr (.inl ⟨l, rfl⟩)
  | inta => exact .inr (.inr (.inl rfl))
  | iowIntEnable d => exact .inr (.inr (.inr ⟨d, .inl rfl⟩))
  | iowIntSelect d => exact .inr (.inr (.inr ⟨d, .inr rfl⟩))
  | pbin => exact absurd (congrArg InterruptPart.irq (samplePortB_interruptPart p tape b)) h
  | _ => exact absurd rfl h

/-- The fields that the CPU's writes own (20_memory.md R45). -/
def Block.cpuWritten (b : Block) : Byte × Byte × Byte × Byte × Bool × Bool :=
  (b.enabled, b.tpRowsel, b.tpMode, b.tpUnused, b.spkMd, b.spkBank)

theorem operation_of_cpuWritten_ne (h : (blockEffect p tape b i).cpuWritten ≠ b.cpuWritten) :
    i.agent = .cpu ∧ i.opClass = .iow := by
  cases i with
  | iowIntEnable | iowIntSelect | iowTpRowsel | iowTpMode | iowTpUnused | iowSpkctl => exact ⟨rfl, rfl⟩
  | inta =>
    obtain ⟨_, _, _, _, hack⟩ := b.acknowledge_frame p
    exact absurd (congrArg Block.cpuWritten hack) h
  | pbin =>
    obtain ⟨_, _, hsample⟩ := b.samplePortB_frame p tape
    exact absurd (congrArg Block.cpuWritten hsample) h
  | _ => exact absurd rfl h

theorem agent_of_prevVideo_ne (h : (blockEffect p tape b i).prevVideo ≠ b.prevVideo) : i.agent = .videoChip := by
  cases i with
  | edgeVideo => rfl
  | inta =>
    obtain ⟨_, _, _, _, hack⟩ := b.acknowledge_frame p
    exact absurd (congrArg Block.prevVideo hack) h
  | pbin => exact absurd (congrArg InterruptPart.prevVideo (samplePortB_interruptPart p tape b)) h
  | _ => exact absurd rfl h

theorem agent_of_prevSpeech_ne (h : (blockEffect p tape b i).prevSpeech ≠ b.prevSpeech) : i.agent = .speechChip := by
  cases i with
  | edgeSpeech => rfl
  | inta =>
    obtain ⟨_, _, _, _, hack⟩ := b.acknowledge_frame p
    exact absurd (congrArg Block.prevSpeech hack) h
  | pbin => exact absurd (congrArg InterruptPart.prevSpeech (samplePortB_interruptPart p tape b)) h
  | _ => exact absurd rfl h

theorem agent_of_row_ne (h : (blockEffect p tape b i).row ≠ b.row) : i.agent = .hostInput := by
  cases i with
  | row => rfl
  | inta => exact absurd (congrArg TouchpadPart.row (acknowledge_touchpadPart p b)) h
  | pbin =>
    obtain ⟨_, _, hsample⟩ := b.samplePortB_frame p tape
    exact absurd (congrArg Block.row hsample) h
  | _ => exact absurd rfl h

/-- The vector and the fault record belong to the acknowledge (10_state.md R25, R34). -/
theorem operation_of_vector_or_fault_ne
    (h : (blockEffect p tape b i).vector ≠ b.vector ∨ (blockEffect p tape b i).fault ≠ b.fault) : i = .inta := by
  cases i with
  | inta => rfl
  | pbin =>
    have hsample := samplePortB_interruptPart p tape b
    exact absurd h (not_or.mpr ⟨not_not.mpr (congrArg InterruptPart.vector hsample),
      not_not.mpr (congrArg InterruptPart.fault hsample)⟩)
  | _ => exact absurd h (not_or.mpr ⟨not_not.mpr rfl, not_not.mpr rfl⟩)

/-! ### The coordinates -/

theorem Block.scanEnable_eq_true_iff : b.scanEnable p = true ↔ b.tp p.scanReg &&& p.scanMask ≠ 0#8 := by
  simp [Block.scanEnable]

theorem Block.scanEnable_eq_false_iff : b.scanEnable p = false ↔ b.tp p.scanReg &&& p.scanMask = 0#8 := by
  simp [Block.scanEnable]

/-- Both coordinates are values of the lookup tables (42_touchpad.md R129). -/
def Block.SampledFromTables (p : Params) (b : Block) : Prop :=
  (∃ c : Fin 24, b.sampledX = p.xtab[c]) ∧ ∃ r : Fin 20, b.sampledY = p.ytab[r]

theorem State.sampledFromTables_iff (s : State) : s.sampledFromTables ↔ s.blk.SampledFromTables s.params := Iff.rfl

/-- A port-B sample with scanning enabled and a cell touched latches two table values; any other changes nothing (42_touchpad.md R121, R125). -/
theorem Block.samplePortB_block_cases (p : Params) (tape : Byte) (b : Block) :
    (b.scanEnable p = true ∧ (∃ r : Fin 20, b.row[r] ≠ 0#24) ∧ (b.samplePortB p tape).1.SampledFromTables p) ∨
      ((b.scanEnable p = false ∨ ∀ r : Fin 20, b.row[r] = 0#24) ∧ (b.samplePortB p tape).1 = b) := by
  rcases b.samplePortB_cases p tape with ⟨hscan, h⟩ | ⟨hscan, h⟩ <;> rw [h]
  · rcases b.isPressed_cases p with ⟨r, c, hcell, h'⟩ | ⟨hcell, h'⟩
    · have htouched : ∃ r : Fin 20, b.row[r] ≠ 0#24 := (b.isPressed_answer_iff p).mp (by rw [h'])
      exact .inl ⟨hscan, htouched, by rw [h']; exact ⟨⟨c, rfl⟩, ⟨r, rfl⟩⟩⟩
    · exact .inr ⟨.inr (firstTouched_eq_none.mp hcell), by rw [h']⟩
  · exact .inr ⟨.inl hscan, rfl⟩

/-- The coordinates are changed by nothing but a port-B sample that finds a touch, which makes them table values (42_touchpad.md R124, R129). -/
theorem blockEffect_coordinates (p : Params) (tape : Byte) (b : Block) (i : Instr) :
    ((blockEffect p tape b i).sampledX = b.sampledX ∧ (blockEffect p tape b i).sampledY = b.sampledY) ∨
      (i = .pbin ∧ b.scanEnable p = true ∧ (∃ r : Fin 20, b.row[r] ≠ 0#24) ∧
        (blockEffect p tape b i).SampledFromTables p) := by
  cases i with
  | inta =>
    have hack := acknowledge_touchpadPart p b
    exact .inl ⟨congrArg TouchpadPart.sampledX hack, congrArg TouchpadPart.sampledY hack⟩
  | pbin =>
    rcases b.samplePortB_block_cases p tape with ⟨hscan, htouched, htab⟩ | ⟨_, h⟩
    · exact .inr ⟨rfl, hscan, htouched, htab⟩
    · exact .inl ⟨congrArg Block.sampledX h, congrArg Block.sampledY h⟩
  | _ => exact .inl ⟨rfl, rfl⟩

theorem operation_of_coordinate_ne
    (h : (blockEffect p tape b i).sampledX ≠ b.sampledX ∨ (blockEffect p tape b i).sampledY ≠ b.sampledY) :
    i = .pbin ∧ b.scanEnable p = true ∧ ∃ r : Fin 20, b.row[r] ≠ 0#24 := by
  rcases blockEffect_coordinates p tape b i with ⟨hx, hy⟩ | ⟨hop, hscan, htouched, _⟩
  · exact absurd h (not_or.mpr ⟨not_not.mpr hx, not_not.mpr hy⟩)
  · exact ⟨hop, hscan, htouched⟩

end Sys2Proof.Machine
end

section
/-! PROOFS. The statements about what a step performs, and about which fields it changes. -/

namespace Sys2Proof.Machine

/-- Settles O6: a running block takes the word and performs what it decodes to. -/
theorem stepPerformsTheDecodedOperation : Obligations.StepPerformsTheDecodedOperation :=
  fun _ _ _ _ hs hin hd => step_of_decode_ok hs hin hd

/-- Settles O7: the decoder's reason is the refusal. -/
theorem stepRefusesAnInvalidWord : Obligations.StepRefusesAnInvalidWord :=
  fun _ _ _ _ hs hin hd => step_of_decode_error hs hin hd

/-- Settles O8: with no word to take a running block stays. -/
theorem idleStepChangesNothing : Obligations.IdleStepChangesNothing :=
  fun _ hs hin => step_idle hs hin

/-- Settles O9: every operation is framed by `State.operate`, which a faulted block does not pass, and the step looks at the fault first. -/
theorem faultedBlockHasNoStep : Obligations.FaultedBlockHasNoStep :=
  fun _ _ h => ⟨exec_faulted h, step_faulted h⟩

/-- Settles O48: the next operation's effect changed a coordinate, so it is a port-B sample that found a touch. -/
theorem coordinatesChangeOnlyInASuccessfulScan : Obligations.CoordinatesChangeOnlyInASuccessfulScan := by
  intro s t h hne
  obtain ⟨i, hop, hchange⟩ := exists_operation_of_change h
    (Q := fun b => b.sampledX ≠ s.blk.sampledX ∨ b.sampledY ≠ s.blk.sampledY) (by simp) hne
  obtain ⟨rfl, hscan, htouched⟩ := operation_of_coordinate_ne hchange
  exact ⟨hop, Block.scanEnable_eq_true_iff.mp hscan, htouched⟩

/-- Settles O49: an operation leaves both coordinates, or makes both table values. -/
theorem sampledCoordinatesStayTableValues : Obligations.SampledCoordinatesStayTableValues := by
  intro s t htab h
  obtain ⟨_, hinst, _, ⟨_, rfl⟩ | ⟨i, _, hb⟩⟩ := step_next h
  · exact htab
  · rw [State.sampledFromTables_iff, State.params, hinst, hb]
    rcases blockEffect_coordinates s.params (Config.ext .tapeBits s.io.tick) s.blk i with ⟨hx, hy⟩ | ⟨_, _, _, htab'⟩
    · rw [Block.SampledFromTables, hx, hy]
      exact htab
    · exact htab'

/-- Settles O50: scanning is enabled and a cell is touched, so the sample latches two table values. -/
theorem successfulScanLatchesTableValues : Obligations.SuccessfulScanLatchesTableValues := by
  intro s r hs hscan hrow
  obtain ⟨t, hexec, hb⟩ := exec_running hs .pbin
  obtain ⟨_, hinst, _, _⟩ := exec_next hexec
  refine ⟨t, hexec, ?_⟩
  rw [State.sampledFromTables_iff, State.params, hinst, hb]
  rcases s.blk.samplePortB_block_cases s.params (Config.ext .tapeBits s.io.tick) with ⟨_, _, htab⟩ | ⟨hno, _⟩
  · exact htab
  · rcases hno with hdisabled | hzero
    · exact absurd (Block.scanEnable_eq_false_iff.mp hdisabled) hscan
    · exact absurd (hzero r) hrow

/-- Settles O52, clause by clause: a field that differs after the step was changed by the next operation's effect, and each field has few operations that
change it. -/
theorem blockFieldsChangeOnlyByTheirAgents : Obligations.BlockFieldsChangeOnlyByTheirAgents := by
  intro s t h
  refine ⟨fun hne => ?_, fun hne => ?_, fun hne => ?_, fun hne => ?_, fun hne => ?_, fun hne => ?_, fun hne => ?_, fun hne => ?_⟩
  · obtain ⟨i, hop, hchange⟩ := exists_operation_of_change h (Q := fun b => b.pending ≠ s.blk.pending) (by simp) hne
    rcases operation_of_pending_ne hchange with rfl | rfl | rfl
    · exact ⟨_, hop, .inl ⟨rfl, rfl⟩⟩
    · exact ⟨_, hop, .inr (.inl ⟨rfl, rfl⟩)⟩
    · exact ⟨_, hop, .inr (.inr ⟨rfl, rfl⟩)⟩
  · obtain ⟨i, hop, hchange⟩ := exists_operation_of_change h (Q := fun b => b.irq ≠ s.blk.irq) (by simp) hne
    rcases operation_of_irq_ne hchange with ⟨l, rfl⟩ | ⟨l, rfl⟩ | rfl | ⟨d, rfl | rfl⟩
    · exact ⟨_, hop, .inl ⟨l, rfl, rfl⟩⟩
    · exact ⟨_, hop, .inr (.inl ⟨l, rfl, rfl⟩)⟩
    · exact ⟨_, hop, .inr (.inr ⟨rfl, .inl rfl⟩)⟩
    · exact ⟨_, hop, .inr (.inr ⟨rfl, .inr ⟨d, .inl rfl⟩⟩)⟩
    · exact ⟨_, hop, .inr (.inr ⟨rfl, .inr ⟨d, .inr rfl⟩⟩)⟩
  · have htuple : t.blk.cpuWritten ≠ s.blk.cpuWritten := by
      simp only [Block.cpuWritten, ne_eq, Prod.mk.injEq]
      tauto
    obtain ⟨i, hop, hchange⟩ := exists_operation_of_change h (Q := fun b => b.cpuWritten ≠ s.blk.cpuWritten) (by simp) htuple
    exact ⟨i, hop, operation_of_cpuWritten_ne hchange⟩
  · obtain ⟨i, hop, hchange⟩ := exists_operation_of_change h (Q := fun b => b.prevVideo ≠ s.blk.prevVideo) (by simp) hne
    exact ⟨i, hop, agent_of_prevVideo_ne hchange⟩
  · obtain ⟨i, hop, hchange⟩ := exists_operation_of_change h (Q := fun b => b.prevSpeech ≠ s.blk.prevSpeech) (by simp) hne
    exact ⟨i, hop, agent_of_prevSpeech_ne hchange⟩
  · obtain ⟨i, hop, hchange⟩ := exists_operation_of_change h (Q := fun b => b.row ≠ s.blk.row) (by simp) hne
    exact ⟨i, hop, agent_of_row_ne hchange⟩
  · obtain ⟨hop, _⟩ := coordinatesChangeOnlyInASuccessfulScan s t h hne
    exact ⟨.pbin, hop, rfl⟩
  · obtain ⟨i, hop, hchange⟩ := exists_operation_of_change h
      (Q := fun b => b.vector ≠ s.blk.vector ∨ b.fault ≠ s.blk.fault) (by simp) hne
    rw [hop, operation_of_vector_or_fault_ne hchange]

end Sys2Proof.Machine
end

section
/-! PROOFS. The interrupt invariant and the life of a pending bit. -/

namespace Sys2Proof.Machine

/-! ### The invariant of a block (10_state.md R27, 40_interrupt.md R92) -/

/-- The interrupt invariant, as a property of the block. -/
def Block.Coherent (p : Params) (b : Block) : Prop := b.lineExact ∧ b.onlyWiredPending p ∧ b.faultExact = true

theorem State.coherent_iff (s : State) : s.coherent ↔ s.blk.Coherent s.params := Iff.rfl

/-- A running block satisfies the invariant's clause on the fault record. -/
theorem Block.faultExact_of_running {b : Block} (h : b.fault = none) : b.faultExact = true := by
  simp [Block.faultExact, h]

/-- The invariant speaks of the interrupt part alone. -/
theorem Block.Coherent.of_interruptPart_eq {p : Params} {b b' : Block} (h : b'.interruptPart = b.interruptPart)
    (hc : b.Coherent p) : b'.Coherent p := by
  cases b
  cases b'
  cases h
  exact hc

/-- With only wired sources pending, an acknowledge that chooses no source finds none active (40_interrupt.md R92). -/
theorem Block.no_active_of_chosenSource_eq_none {p : Params} {b : Block} (hwired : b.onlyWiredPending p)
    (h : b.chosenSource p = none) : b.pending &&& b.enabled = 0#8 := by
  rcases b.chosenSource_cases p with ⟨hv, _⟩ | ⟨hs, _⟩ | ⟨_, hvideo, hspeech⟩
  · simp [hv] at h
  · simp [hs] at h
  · refine byte_ext fun i => ?_
    rw [bitAt_zero]
    by_contra hi
    have hpend : bitAt b.pending i = true := by
      simp only [bitAt_and, Bool.not_eq_false, Bool.and_eq_true] at hi
      exact hi.1
    rcases hwired i hpend with rfl | rfl
    · exact hi hvideo
    · exact hi hspeech

theorem Block.Coherent.signalEdge {p : Params} {b : Block} (hc : b.Coherent p) (src : Source) (l : Bool)
    (hrun : b.fault = none) : (b.signalEdge p src l).Coherent p := by
  obtain ⟨_, hwired, _⟩ := hc
  refine ⟨rfl, fun i hi => ?_, Block.faultExact_of_running (by simpa using hrun)⟩
  rw [Block.bitAt_signalEdge_pending, Bool.or_eq_true] at hi
  rcases hi with hrise | hold
  · have hbit : src.bit p = i := by simp only [Bool.and_eq_true, decide_eq_true_eq] at hrise; exact hrise.2
    cases src with
    | video => exact .inl hbit.symm
    | speech => exact .inr hbit.symm
  · exact hwired i hold

theorem Block.Coherent.writeEnable {p : Params} {b : Block} (hc : b.Coherent p) (d : Byte) (hrun : b.fault = none) :
    (b.writeEnable d).Coherent p :=
  ⟨rfl, hc.2.1, Block.faultExact_of_running hrun⟩

theorem Block.Coherent.acknowledge {p : Params} {b : Block} (hc : b.Coherent p) (hrun : b.fault = none) :
    (b.acknowledge p).1.Coherent p := by
  obtain ⟨hline, hwired, _⟩ := hc
  rcases b.acknowledge_cases p with ⟨src, _, hack⟩ | ⟨hnone, hack⟩ <;> rw [hack]
  · refine ⟨rfl, fun i hi => hwired i ?_, Block.faultExact_of_running hrun⟩
    rw [Block.serve_pending, bitAt_putBit] at hi
    split at hi
    · cases hi
    · exact hi
  · refine ⟨hline, hwired, ?_⟩
    have hact := Block.no_active_of_chosenSource_eq_none hwired hnone
    simp [Block.faultExact, hact]

/-- Every operation on a running block keeps the invariant. -/
theorem Block.Coherent.blockEffect {p : Params} {b : Block} (hc : b.Coherent p) (hrun : b.fault = none) (tape : Byte)
    (i : Instr) : (blockEffect p tape b i).Coherent p := by
  rcases blockEffect_cases p tape b i with he | ⟨l, _, he⟩ | ⟨l, _, he⟩ | ⟨d, _, he⟩ | ⟨d, _, he⟩ | ⟨_, he⟩ | ⟨d, _, he⟩ |
    ⟨r, d, _, he⟩ | ⟨r, c, _, he⟩ | ⟨_, he⟩ <;> rw [he]
  · exact hc
  · exact hc.signalEdge .video l hrun
  · exact hc.signalEdge .speech l hrun
  · exact hc.writeEnable d hrun
  · exact hc.writeEnable _ hrun
  · exact hc.acknowledge hrun
  · exact hc.of_interruptPart_eq rfl
  · exact hc.of_interruptPart_eq (by cases r <;> rfl)
  · exact hc.of_interruptPart_eq rfl
  · exact hc.of_interruptPart_eq (samplePortB_interruptPart p tape b)

/-- The block after reset satisfies the invariant (10_state.md R43). -/
theorem Block.reset_coherent (p : Params) : Block.reset.Coherent p :=
  ⟨rfl, fun i hi => absurd ((bitAt_zero i).symm.trans hi) Bool.false_ne_true, rfl⟩

/-! ### The life of a pending bit (10_state.md R23) -/

/-- A signal callback clears no pending bit (40_interrupt.md R79, R80). -/
theorem Block.signalEdge_keeps_pending {p : Params} {b : Block} {j : Fin 8} (src : Source) (l : Bool)
    (h : bitAt b.pending j = true) : bitAt (b.signalEdge p src l).pending j = true := by
  rw [Block.bitAt_signalEdge_pending, h, Bool.or_true]

/-- A signal callback sets its own source's bit alone, and only on a rising edge (40_interrupt.md R79, R80). -/
theorem Block.rise_of_signalEdge_sets {p : Params} {b : Block} {src : Source} {l : Bool} {j : Fin 8}
    (h0 : bitAt b.pending j = false) (h1 : bitAt (b.signalEdge p src l).pending j = true) :
    j = src.bit p ∧ b.prev src = false := by
  rw [Block.bitAt_signalEdge_pending, h0, Bool.or_false] at h1
  simp only [Bool.and_eq_true, Bool.not_eq_true', decide_eq_true_eq] at h1
  obtain ⟨⟨_, hprev⟩, hbit⟩ := h1
  exact ⟨hbit.symm, hprev⟩

/-- An acknowledge sets no pending bit (40_interrupt.md R84). -/
theorem Block.acknowledge_sets_no_pending {p : Params} {b : Block} {j : Fin 8} (h : bitAt b.pending j = false) :
    bitAt (b.acknowledge p).1.pending j = false := by
  rcases b.acknowledge_cases p with ⟨src, _, hack⟩ | ⟨_, hack⟩ <;> rw [hack]
  · rw [Block.serve_pending, bitAt_putBit]
    split
    · rfl
    · exact h
  · exact h

/-- An acknowledge that clears a source's pending bit serves that source (40_interrupt.md R84). -/
theorem Block.acknowledge_of_clears_pending {c : Instantiation} {b : Block} {src : Source}
    (h1 : bitAt b.pending (src.bit c.params) = true) (h0 : bitAt (b.acknowledge c.params).1.pending (src.bit c.params) = false) :
    b.acknowledge c.params = (b.serve c.params src, some src.vector) := by
  rcases b.acknowledge_cases c.params with ⟨src', _, hack⟩ | ⟨_, hack⟩ <;> rw [hack] at h0 ⊢
  · rw [Block.serve_pending, bitAt_putBit] at h0
    split at h0
    · rename_i hbit
      rw [bit_injective c hbit]
    · exact absurd (h0.symm.trans h1) Bool.false_ne_true
  · exact absurd (h0.symm.trans h1) Bool.false_ne_true

/-- An operation that clears a pending bit is the acknowledge. -/
theorem operation_of_clears_pending {p : Params} {tape : Byte} {b : Block} {i : Instr} {j : Fin 8}
    (h1 : bitAt b.pending j = true) (h0 : bitAt (blockEffect p tape b i).pending j = false) : i = .inta := by
  have hne : (blockEffect p tape b i).pending ≠ b.pending := fun he => by
    rw [he, h1] at h0
    cases h0
  rcases operation_of_pending_ne hne with rfl | rfl | rfl
  · exact (Bool.false_ne_true (h0.symm.trans (Block.signalEdge_keeps_pending .video true h1))).elim
  · exact (Bool.false_ne_true (h0.symm.trans (Block.signalEdge_keeps_pending .speech true h1))).elim
  · rfl

/-- A pending bit stays through a step that performs no acknowledge (40_interrupt.md R87). -/
theorem step_keeps_pending {s t : State} {j : Fin 8} (h : step s = .next t) (hop : s.nextOperation ≠ some .inta)
    (hpend : bitAt s.blk.pending j = true) : bitAt t.blk.pending j = true := by
  by_contra hclear
  obtain ⟨i, hi, hzero⟩ := exists_operation_of_change h (Q := fun b => bitAt b.pending j = false) (by simp [hpend])
    (Bool.eq_false_of_not_eq_true hclear)
  exact hop (operation_of_clears_pending hpend hzero ▸ hi)

/-- With no acknowledge among the words presented first, the next operation is none. -/
theorem nextOperation_ne_inta {s : State} {k : Nat} (h : ∀ w ∈ s.io.inbox.take (k + 1), decode s.params w ≠ .ok .inta) :
    s.nextOperation ≠ some .inta := by
  intro hop
  cases hin : s.io.inbox with
  | nil => simp [State.nextOperation, State.fetch, hin] at hop
  | cons w rest =>
    refine h w (by simp [hin]) ?_
    cases hd : decode s.params w with
    | ok i =>
      rw [nextOperation_eq_some hin hd] at hop
      cases hop
      rfl
    | error e => simp [State.nextOperation, State.fetch, hin, hd, Except.toOption] at hop

/-- A run keeps a pending bit while no acknowledge is performed. -/
theorem run_keeps_pending {j : Fin 8} (k : Nat) : ∀ {s t : State},
    (∀ w ∈ s.io.inbox.take k, decode s.params w ≠ .ok .inta) → run k s = .next t →
      bitAt s.blk.pending j = true → bitAt t.blk.pending j = true := by
  induction k with
  | zero =>
    intro s t _ hrun hpend
    cases hrun
    exact hpend
  | succ k ih =>
    intro s t hwords hrun hpend
    obtain ⟨s', hstep, hrun'⟩ := run_succ hrun
    obtain ⟨_, hinst, hin, _⟩ := step_next hstep
    refine ih (fun w hw => ?_) hrun' (step_keeps_pending hstep (nextOperation_ne_inta hwords) hpend)
    rw [State.params, hinst]
    refine hwords w ?_
    rw [hin, List.take_drop] at hw
    exact List.mem_of_mem_drop (Nat.add_comm 1 k ▸ hw)

/-! ### The statements -/

/-- Settles O22: the next operation, on a running block, keeps the invariant. -/
theorem everyStepKeepsTheLineExact : Obligations.EveryStepKeepsTheLineExact := by
  intro s t hc h
  obtain ⟨hrun, hinst, _, ⟨_, rfl⟩ | ⟨i, _, hb⟩⟩ := step_next h
  · exact hc
  · rw [State.coherent_iff, State.params, hinst, hb]
    exact Block.Coherent.blockEffect hc hrun _ i

/-- Settles O23: at reset nothing is pending, the line is low and there is no fault. -/
theorem resetIsCoherent : Obligations.ResetIsCoherent := fun c => Block.reset_coherent c.params

/-- Settles O24, by induction on the length of the run: each of its steps keeps the bit. -/
theorem pendingIsStickyAlongRuns : Obligations.PendingIsStickyAlongRuns :=
  fun k _ _ _ hwords hrun hpend => run_keeps_pending k hwords hrun hpend

/-- Settles O25: the step's operation is the acknowledge, and one that clears the source's bit serves the source. -/
theorem onlyItsAcknowledgeClearsAPendingBit : Obligations.OnlyItsAcknowledgeClearsAPendingBit := by
  intro s t src h hset hclear
  obtain ⟨hrun, ⟨_, rfl⟩ | ⟨w, rest, i, hin, hd, hexec⟩⟩ := step_cases h
  · rw [hset] at hclear
    cases hclear
  · obtain ⟨hrun', _, _, hb⟩ := exec_next hexec
    rw [hb] at hclear
    obtain rfl := operation_of_clears_pending hset hclear
    have hserve := Block.acknowledge_of_clears_pending hset hclear
    cases (exec_inta hrun').symm.trans hexec
    exact ⟨nextOperation_eq_some hin hd, congrArg Prod.snd hserve, congrArg (fun served => served.1.vector) hserve⟩

/-- Settles O26: the mask was changed by an edge or by the acknowledge, and of these only a rising edge sets a bit, its own. -/
theorem onlyARisingEdgeSetsAPendingBit : Obligations.OnlyARisingEdgeSetsAPendingBit := by
  intro s t j h hclear hset
  obtain ⟨i, hop, hone⟩ := exists_operation_of_change h (Q := fun b => bitAt b.pending j = true) (by simp [hclear]) hset
  rcases operation_of_pending_ne (fun he => by rw [he, hclear] at hone; cases hone) with rfl | rfl | rfl
  · obtain ⟨hbit, hprev⟩ := Block.rise_of_signalEdge_sets hclear hone
    exact .inl ⟨hbit, hop, hprev⟩
  · obtain ⟨hbit, hprev⟩ := Block.rise_of_signalEdge_sets hclear hone
    exact .inr ⟨hbit, hop, hprev⟩
  · exact absurd ((Block.acknowledge_sets_no_pending hclear).symm.trans hone) Bool.false_ne_true

/-- Settles O18: the line tells whether a bit is pending and enabled; a pending bit is a wired source's, which the acknowledge then chooses. -/
theorem lineSaysWhetherAcknowledgeIsSafe : Obligations.LineSaysWhetherAcknowledgeIsSafe := by
  intro s hc hrun
  obtain ⟨hline, hwired, _⟩ := hc
  refine ⟨fun hirq => ?_, fun hirq => ?_⟩ <;> refine ⟨_, exec_inta hrun, ?_⟩
  · rcases s.blk.acknowledge_cases s.params with ⟨src, _, hack⟩ | ⟨hnone, _⟩
    · rw [hack]
      refine ⟨hrun, ?_⟩
      cases src with
      | video => exact .inl rfl
      | speech => exact .inr rfl
    · have hact := Block.no_active_of_chosenSource_eq_none hwired hnone
      rw [hline, lineLevel, hact] at hirq
      cases hirq
  · have hact : s.blk.pending &&& s.blk.enabled = 0#8 := by
      rw [hline, lineLevel] at hirq
      simpa using hirq
    have hnone : s.blk.chosenSource s.params = none := by simp [Block.chosenSource, hact]
    rcases s.blk.acknowledge_cases s.params with ⟨src, hsome, _⟩ | ⟨_, hack⟩
    · rw [hnone] at hsome
      cases hsome
    · rw [hack]
      exact ⟨rfl, by simp [hact]⟩

end Sys2Proof.Machine
end

section
/-! PROOFS. The statements of 40_interrupt.md about the edges, the port reads, the acknowledge and the mask writes. -/

namespace Sys2Proof.Machine

/-! ### The edges -/

/-- Setting a bit is the or with its one-bit byte. -/
theorem putBit_true (v : Byte) (i : Fin 8) : putBit v i true = v ||| (1#8 <<< i.val) := rfl

/-- The pending mask after a signal callback, as the rule's pseudocode writes it (40_interrupt.md R79, R80). -/
theorem Block.signalEdge_pending_eq_ite (p : Params) (src : Source) (l : Bool) (b : Block) :
    (b.signalEdge p src l).pending =
      if l = true ∧ b.prev src = false then b.pending ||| (1#8 <<< (src.bit p).val) else b.pending := by
  simp only [Block.signalEdge_pending, putBit_true, Bool.and_eq_true, Bool.not_eq_true']

/-- A video edge on a running block is the video source's callback (40_interrupt.md R79). -/
theorem exec_edgeVideo {s : State} (h : s.running) (l : Bool) :
    exec (.edgeVideo l) s = .next ((s.mapBlock (Block.signalEdge s.params .video l)).answer none) := by
  rw [exec, execEdgeVideo, State.operate_running h]

/-- A speech edge on a running block is the speech source's callback (40_interrupt.md R80). -/
theorem exec_edgeSpeech {s : State} (h : s.running) (l : Bool) :
    exec (.edgeSpeech l) s = .next ((s.mapBlock (Block.signalEdge s.params .speech l)).answer none) := by
  rw [exec, execEdgeSpeech, State.operate_running h]

/-- A video callback writes the pending mask, the video level and the line. -/
theorem Block.signalEdge_video_frame (p : Params) (l : Bool) (b : Block) :
    b.signalEdge p .video l =
      { b with pending := (b.signalEdge p .video l).pending, prevVideo := l,
               irq := lineLevel (b.signalEdge p .video l).pending b.enabled } := rfl

/-- A speech callback writes the pending mask, the speech level and the line. -/
theorem Block.signalEdge_speech_frame (p : Params) (l : Bool) (b : Block) :
    b.signalEdge p .speech l =
      { b with pending := (b.signalEdge p .speech l).pending, prevSpeech := l,
               irq := lineLevel (b.signalEdge p .speech l).pending b.enabled } := rfl

/-- Settles O10: the callback is framed by the three fields it writes, and its mask is the rule's. -/
theorem videoEdgeLatchesOnRise : Obligations.VideoEdgeLatchesOnRise := by
  intro s l hs pending
  have hpending : (s.blk.signalEdge s.params .video l).pending = pending :=
    Block.signalEdge_pending_eq_ite s.params .video l s.blk
  refine ⟨decode_spellEdgeVideo s.params l, ?_⟩
  rw [exec_edgeVideo hs, State.mapBlock, Block.signalEdge_video_frame, hpending]
  rfl

/-- Settles O11: the callback is framed by the three fields it writes, and its mask is the rule's. -/
theorem speechEdgeLatchesOnRise : Obligations.SpeechEdgeLatchesOnRise := by
  intro s l hs pending
  have hpending : (s.blk.signalEdge s.params .speech l).pending = pending :=
    Block.signalEdge_pending_eq_ite s.params .speech l s.blk
  refine ⟨decode_spellEdgeSpeech s.params l, ?_⟩
  rw [exec_edgeSpeech hs, State.mapBlock, Block.signalEdge_speech_frame, hpending]
  rfl

/-! ### The port reads -/

theorem exec_iorIntEnable {s : State} (h : s.running) : exec .iorIntEnable s = .next (s.answerExt .intEnableRead) := by
  rw [exec, execIorIntEnable, State.operate_running h]

theorem exec_iorIntSelect {s : State} (h : s.running) : exec .iorIntSelect s = .next (s.answerExt .intSelectRead) := by
  rw [exec, execIorIntSelect, State.operate_running h]

/-- Settles O15: each of the two ports has its own read handler, which answers an external byte. -/
theorem interruptPortReadsAreExternal : Obligations.InterruptPortReadsAreExternal := fun s hs =>
  ⟨⟨by rw [decode_spellIor, s.inst.readHandler_pIntEnable], exec_iorIntEnable hs⟩,
    ⟨by rw [decode_spellIor, s.inst.readHandler_pIntSelect], exec_iorIntSelect hs⟩⟩

/-! ### The acknowledge -/

theorem Block.acknowledge_of_video_active {p : Params} {b : Block} (h : bitAt (b.pending &&& b.enabled) 0 = true) :
    b.acknowledge p = (b.serve p .video, some Config.vecVideo) := by
  have hchosen : b.chosenSource p = some .video := if_pos h
  rw [Block.acknowledge, hchosen]
  rfl

theorem Block.acknowledge_of_speech_active {p : Params} {b : Block} (hv : bitAt (b.pending &&& b.enabled) 0 = false)
    (hs : bitAt (b.pending &&& b.enabled) p.speechBit = true) :
    b.acknowledge p = (b.serve p .speech, some Config.vecSpeech) := by
  have hchosen : b.chosenSource p = some .speech :=
    (if_neg (Bool.eq_false_iff.mp hv)).trans (if_pos hs)
  rw [Block.acknowledge, hchosen]
  rfl

theorem Block.acknowledge_of_none_active {p : Params} {b : Block} (hv : bitAt (b.pending &&& b.enabled) 0 = false)
    (hs : bitAt (b.pending &&& b.enabled) p.speechBit = false) : b.acknowledge p = (b.raiseFatalAck, none) := by
  have hchosen : b.chosenSource p = none :=
    (if_neg (Bool.eq_false_iff.mp hv)).trans (if_neg (Bool.eq_false_iff.mp hs))
  rw [Block.acknowledge, hchosen]

/-- Settles O16: the three cases are the three choices of the arbiter. -/
theorem acknowledgeServesOrIsFatal : Obligations.AcknowledgeServesOrIsFatal := by
  intro s hs act noVideo noSpeech
  refine ⟨(decode_bareWord s.params).1, fun hv => ?_, fun hv hsp => ?_, fun hv hsp => ?_⟩ <;> rw [exec_inta hs]
  · rw [Block.acknowledge_of_video_active hv]
    rfl
  · rw [Block.acknowledge_of_speech_active hv hsp]
    rfl
  · rw [Block.acknowledge_of_none_active hv hsp]
    rfl

/-- A step on a presented INTA word is the arbiter's acknowledge. -/
theorem step_inta {s : State} {rest : List Word} (hs : s.running) (hin : s.io.inbox = 0x60000000#32 :: rest) :
    step s = .next
      { s with
        blk := (s.blk.acknowledge s.params).1
        io := { s.io with inbox := rest, result := (s.blk.acknowledge s.params).2 } } := by
  rw [step_of_decode_ok hs hin (decode_bareWord s.params).1]
  exact exec_inta hs

/-- Settles O17: the first acknowledge serves video and leaves speech active alone, which the second serves. -/
theorem videoIsServedBeforeSpeech : Obligations.VideoIsServedBeforeSpeech := by
  intro s rest hs hin hvideo hspeech
  have hne : Source.video.bit s.params ≠ s.params.speechBit := (speechBit_ne_zero s.inst).symm
  obtain ⟨b, hb⟩ : ∃ b, b = s.blk.serve s.params .video := ⟨_, rfl⟩
  have hfirst : step s = .next { s with
      blk := b, io := { s.io with inbox := 0x60000000#32 :: rest, result := some Config.vecVideo } } := by
    rw [step_inta hs hin, Block.acknowledge_of_video_active hvideo, hb]
  have hv : bitAt b.pending 0 = false := by
    rw [hb, Block.serve_pending, bitAt_putBit]
    exact if_pos rfl
  have hsp : bitAt (b.pending &&& b.enabled) s.params.speechBit = true := by
    rw [bitAt_and] at hspeech ⊢
    rw [hb, Block.serve_pending, bitAt_putBit, if_neg hne]
    exact hspeech
  have hsecond := Block.acknowledge_of_speech_active (p := s.params) (b := b) (by rw [bitAt_and, hv, Bool.false_and]) hsp
  have hrun : b.fault = none := by rw [hb]; exact hs
  refine ⟨⟨_, run_step 0 hfirst, rfl⟩,
    ⟨_, (run_step 1 hfirst).trans (run_step 0 (step_inta hrun rfl)), congrArg Prod.snd hsecond, ?_, ?_⟩⟩
  · change bitAt (b.acknowledge s.params).1.pending 0 = false
    rw [hsecond, Block.serve_pending, bitAt_putBit, hv, ite_self]
  · change bitAt (b.acknowledge s.params).1.pending s.params.speechBit = false
    rw [hsecond, Block.serve_pending, bitAt_putBit]
    exact if_pos rfl

/-! ### The mask writes -/

/-- The pin and the set bit of the byte of `SETEN` and of `CLREN` (30_encoding.md R76). -/
theorem selectByte_fields : ∀ pin : Fin 8,
    (pinIndex (BitVec.ofNat 8 pin.val <<< 1 ||| 1#8) = pin ∧ selectSets (BitVec.ofNat 8 pin.val <<< 1 ||| 1#8) = true) ∧
    (pinIndex (BitVec.ofNat 8 pin.val <<< 1) = pin ∧ selectSets (BitVec.ofNat 8 pin.val <<< 1) = false) := by
  decide

/-- `SETEN pin` on a running block is writeEnable of the mask with that bit set (30_encoding.md R76). -/
theorem exec_pseudoSeten {s : State} (h : s.running) (pin : Fin 8) :
    exec (pseudoSeten pin) s =
      .next ((s.mapBlock (Block.writeEnable (putBit s.blk.enabled pin true))).answer none) := by
  obtain ⟨⟨hpin, hset⟩, _⟩ := selectByte_fields pin
  rw [pseudoSeten, exec_iowIntSelect h, State.mapBlock, Block.writeSelect, hpin, hset]
  rfl

/-- `CLREN pin` on a running block is writeEnable of the mask with that bit cleared (30_encoding.md R76). -/
theorem exec_pseudoClren {s : State} (h : s.running) (pin : Fin 8) :
    exec (pseudoClren pin) s =
      .next ((s.mapBlock (Block.writeEnable (putBit s.blk.enabled pin false))).answer none) := by
  obtain ⟨_, ⟨hpin, hset⟩⟩ := selectByte_fields pin
  rw [pseudoClren, exec_iowIntSelect h, State.mapBlock, Block.writeSelect, hpin, hset]
  rfl

theorem lineLevel_eq_false_iff (x y : Byte) :
    lineLevel x y = false ↔ ∀ i : Fin 8, bitAt x i = true → bitAt y i = false := by
  rw [← Bool.not_eq_true, lineLevel_eq_true_iff]
  simp

/-- A pending pin that is set in the mask raises the line (40_interrupt.md R88). -/
theorem exec_pseudoSeten_raises {s : State} (h : s.running) {pin : Fin 8} (hpend : bitAt s.blk.pending pin = true) :
    ∃ t, exec (pseudoSeten pin) s = .next t ∧ t.blk.irq = true :=
  ⟨_, exec_pseudoSeten h pin, (lineLevel_eq_true_iff _ _).mpr ⟨pin, hpend, by simp⟩⟩

/-- Settles O19: the line is asserted exactly if some bit is pending and enabled, and a mask write changes no pending bit. -/
theorem enablingAPendingSourceRaisesTheLine : Obligations.EnablingAPendingSourceRaisesTheLine := by
  intro s pin hs hpend
  refine ⟨fun d hd => ?_, exec_pseudoSeten_raises hs hpend, fun d hd => ?_, ?_⟩
  · exact ⟨_, exec_iowIntEnable hs d, (lineLevel_eq_true_iff _ _).mpr ⟨pin, hpend, hd⟩⟩
  · obtain ⟨u, hu, hirq⟩ := exec_pseudoSeten_raises (s := (s.mapBlock (Block.writeEnable d)).answer none) hs hpend
    exact ⟨_, u, exec_iowIntEnable hs d, hd, rfl, (lineLevel_eq_false_iff _ _).mpr, hu, hirq⟩
  · obtain ⟨u, hu, hirq⟩ := exec_pseudoSeten_raises
      (s := (s.mapBlock (Block.writeEnable (putBit s.blk.enabled pin false))).answer none) hs hpend
    refine ⟨_, u, exec_pseudoClren hs pin, by simp, rfl, fun hothers => ?_, hu, hirq⟩
    refine (lineLevel_eq_false_iff _ _).mpr fun i hi => ?_
    rw [bitAt_putBit]
    split
    · rfl
    · rename_i hne
      exact hothers i (Ne.symm hne) hi

/-- Masks that agree on every pending bit give the line one level (40_interrupt.md R89). -/
theorem lineLevel_congr {x y z : Byte} (h : ∀ i : Fin 8, bitAt x i = true → bitAt y i = bitAt z i) :
    lineLevel x y = lineLevel x z := by
  have hand : x &&& y = x &&& z := byte_ext fun i => by
    rw [bitAt_and, bitAt_and]
    cases hi : bitAt x i with
    | true => rw [h i hi]
    | false => rw [Bool.false_and, Bool.false_and]
  rw [lineLevel, lineLevel, hand]

/-- Settles O21: both writes leave the mask as it was on every pending bit, so the line they recompute is the exact one before. -/
theorem enablesOutsidePendingLeaveTheLine : Obligations.EnablesOutsidePendingLeaveTheLine := by
  intro s hs hline
  refine ⟨fun d hagree => ?_, fun d hpin => ?_⟩
  · exact ⟨_, exec_iowIntEnable hs d, rfl, (lineLevel_congr hagree).trans hline.symm⟩
  · refine ⟨_, exec_iowIntSelect hs d, ?_, ?_⟩
    · change bitAt (s.blk.writeSelect d).enabled (pinIndex d) = d.getLsbD 0
      rw [Block.bitAt_writeSelect_enabled, if_pos rfl, selectSets_eq]
    · refine (lineLevel_congr fun i hi => ?_).trans hline.symm
      have hne : pinIndex d ≠ i := by
        rintro rfl
        exact Bool.false_ne_true (hpin.symm.trans hi)
      rw [bitAt_putBit, if_neg hne]

/-! ### Eight bit writes (40_interrupt.md R89) -/

/-- The byte that writes bit `q` of mask `m` through the select register. -/
def selectByte (m : Byte) (q : Fin 8) : Byte := BitVec.ofNat 8 (2 * q.val) ||| if bitAt m q then 0x01#8 else 0x00#8

/-- The two operands of a select byte. -/
theorem selectByte_operands (m : Byte) (q : Fin 8) :
    pinIndex (selectByte m q) = q ∧ selectSets (selectByte m q) = bitAt m q := by
  unfold selectByte
  cases bitAt m q <;> revert q <;> decide

/-- The mask after writing the bits of `m` that a list of pins names. -/
def putBits (m : Byte) (pins : List (Fin 8)) (e : Byte) : Byte := pins.foldl (fun e q => putBit e q (bitAt m q)) e

theorem bitAt_putBits (m : Byte) (pins : List (Fin 8)) (e : Byte) (i : Fin 8) :
    bitAt (putBits m pins e) i = if i ∈ pins then bitAt m i else bitAt e i := by
  induction pins generalizing e with
  | nil => simp [putBits]
  | cons q pins ih =>
    have hcons : putBits m (q :: pins) e = putBits m pins (putBit e q (bitAt m q)) := rfl
    rw [hcons, ih, bitAt_putBit]
    by_cases hq : q = i
    · simp [hq]
    · simp [hq, Ne.symm hq]

/-- Writing every bit of a mask gives the mask. -/
theorem putBits_of_forall_mem {m : Byte} {pins : List (Fin 8)} (h : ∀ i, i ∈ pins) (e : Byte) : putBits m pins e = m :=
  byte_ext fun i => by rw [bitAt_putBits, if_pos (h i)]

theorem Block.writeSelect_selectByte (m : Byte) (q : Fin 8) (b : Block) :
    b.writeSelect (selectByte m q) = b.writeEnable (putBit b.enabled q (bitAt m q)) := by
  obtain ⟨hpin, hset⟩ := selectByte_operands m q
  rw [Block.writeSelect, hpin, hset]
  rfl

/-- A step on a presented select byte writes its bit. -/
theorem step_selectByte {s : State} {rest : List Word} {m : Byte} {q : Fin 8} (hs : s.running)
    (hin : s.io.inbox = spellIow s.params.pIntSelect (selectByte m q) :: rest) :
    step s = .next
      { s with
        blk := s.blk.writeEnable (putBit s.blk.enabled q (bitAt m q))
        io := { s.io with inbox := rest, result := none } } := by
  rw [step_of_decode_ok hs hin (decode_spellIow_pIntSelect s.inst _), ← Block.writeSelect_selectByte]
  exact exec_iowIntSelect (s := { s with io := { s.io with inbox := rest } }) hs _

/-- A run over presented select bytes, of which at least one, is one writeEnable of the mask with the named bits written. -/
theorem run_selectBytes (m : Byte) (rest : List Word) : ∀ (pins : List (Fin 8)) (q : Fin 8) (s : State), s.running →
    s.io.inbox = (q :: pins).map (fun q => spellIow s.params.pIntSelect (selectByte m q)) ++ rest →
    ∃ t, run (pins.length + 1) s = .next t ∧ t.io.inbox = rest ∧
      t.blk = s.blk.writeEnable (putBits m (q :: pins) s.blk.enabled) := by
  intro pins
  induction pins with
  | nil =>
    intro q s hs hin
    exact ⟨_, run_step 0 (step_selectByte hs hin), rfl, rfl⟩
  | cons q' pins ih =>
    intro q s hs hin
    obtain ⟨t, hrun, hrest, hblk⟩ := ih q' { s with
      blk := s.blk.writeEnable (putBit s.blk.enabled q (bitAt m q))
      io := { s.io with
        inbox := (q' :: pins).map (fun q => spellIow s.params.pIntSelect (selectByte m q)) ++ rest
        result := none } } hs rfl
    exact ⟨t, (run_step _ (step_selectByte hs hin)).trans hrun, hrest, hblk⟩

/-- Settles O20: the run writes every bit of the mask, and the last of its line recomputations is the one of writeEnable. -/
theorem eightSelectsInAnyOrderEqualOneEnable : Obligations.EightSelectsInAnyOrderEqualOneEnable := by
  intro s m order rest hs hperm hin
  have hlen : order.length = 8 := by simpa using hperm.length_eq
  have hmem : ∀ i, i ∈ order := fun i => hperm.mem_iff.mpr (List.mem_finRange i)
  cases order with
  | nil => cases hlen
  | cons q pins =>
    obtain ⟨t, hrun, hrest, hblk⟩ := run_selectBytes m rest pins q s hs hin
    rw [← List.length_cons (a := q), hlen] at hrun
    rw [putBits_of_forall_mem hmem] at hblk
    exact ⟨t, hrun, hrest, hblk⟩

end Sys2Proof.Machine
end

section
/-! PROOFS. The statements of 41_dispatcher.md about the windows, the unmapped ports, the write-only ports and the port samples. -/

namespace Sys2Proof.Machine

/-- An operation whose meaning makes `t` of a state that performs it answers `t` on a running block. -/
theorem exec_eq_next {i : Instr} {s t : State} (hs : s.running) (h : exec i s = s.operate fun _ => t) :
    exec i s = .next t :=
  h.trans (State.operate_running hs _)

/-! ### The written reads and writes of a window -/

/-- The port at an offset of a window, as the statements write it: the base and the offset share no bit. -/
theorem add_setWidth_eq_windowPort {n : Nat} {base : Port} (hbase : base.setWidth n = 0#n) (off : BitVec n) :
    base + off.setWidth 8 = windowPort base off := by
  refine BitVec.add_eq_or_of_and_eq_zero _ _ (BitVec.eq_of_getLsbD_eq fun i hi => ?_)
  rw [BitVec.getLsbD_and, BitVec.getLsbD_setWidth, BitVec.getLsbD_zero]
  by_cases hin : i < n
  · have hlow : base.getLsbD i = false := by simpa [hin] using congrArg (BitVec.getLsbD · i) hbase
    rw [hlow, Bool.false_and]
  · rw [BitVec.getLsbD_of_ge off i (Nat.le_of_not_lt hin), Bool.and_false, Bool.and_false]

/-- The first window starts at port 0, so its ports are the offsets. -/
theorem setWidth_eq_windowPort_vdpBase (off : BitVec 2) : off.setWidth 8 = windowPort Config.vdpBase off :=
  (BitVec.zero_or (x := off.setWidth 8)).symm

theorem decode_spellIor_of_handler {p : Params} {a b : Port} {i : Instr} (hab : a = b) (h : readHandler p b = i) :
    decode p (spellIor a) = .ok i := by
  rw [decode_spellIor, hab, h]

theorem decode_spellIow_of_handler {p : Params} {a b : Port} {d : Byte} {i : Instr} (hab : a = b)
    (h : writeHandler p b d = i) : decode p (spellIow a d) = .ok i := by
  rw [decode_spellIow, hab, h]

/-! ### The forwarding windows -/

/-- Settles O28: the window's ports are dispatched to the forwards with their offset. -/
theorem videoWindowIsForwarded : Obligations.VideoWindowIsForwarded := by
  intro s off d hs
  obtain ⟨hread, hwrite⟩ := handlers_vdp s.params off
  have hport := setWidth_eq_windowPort_vdpBase off
  exact ⟨⟨decode_spellIor_of_handler hport hread, exec_eq_next hs rfl⟩,
    ⟨decode_spellIow_of_handler hport (hwrite d), exec_eq_next hs rfl⟩⟩

/-- Settles O29: the window's ports are dispatched to the forwards with their offset. -/
theorem parallelWindowIsForwarded : Obligations.ParallelWindowIsForwarded := by
  intro s off d hs
  obtain ⟨hread, hwrite⟩ := handlers_ppi s.params off
  have hport := add_setWidth_eq_windowPort (base := Config.ppiBase) rfl off
  exact ⟨⟨decode_spellIor_of_handler hport hread, exec_eq_next hs rfl⟩,
    ⟨decode_spellIow_of_handler hport (hwrite d), exec_eq_next hs rfl⟩⟩

/-- Settles O30: the window's ports are dispatched to the forwards with their offset. -/
theorem serialWindowIsForwarded : Obligations.SerialWindowIsForwarded := by
  intro s off d hs
  obtain ⟨hread, hwrite⟩ := handlers_sio s.params off
  have hport := add_setWidth_eq_windowPort (base := Config.sioBase) rfl off
  exact ⟨⟨decode_spellIor_of_handler hport hread, exec_eq_next hs rfl⟩,
    ⟨decode_spellIow_of_handler hport (hwrite d), exec_eq_next hs rfl⟩⟩

/-- Settles O35: the window's ports are dispatched to the forwards with their offset, which is already of an offset's width. -/
theorem expansionWindowIsForwarded : Obligations.ExpansionWindowIsForwarded := by
  intro s off d hs
  obtain ⟨hread, hwrite⟩ := handlers_exp s.params off
  have hport := add_setWidth_eq_windowPort (base := Config.expBase) rfl off
  have hoff : regOffset off = off := BitVec.setWidth_eq off
  have hforwardRead : exec (.iorExp off) s = .next (s.forwardRead .exp (regOffset off)) := exec_eq_next hs rfl
  have hforwardWrite : exec (.iowExp off d) s = .next (s.forwardWrite .exp (regOffset off) d) := exec_eq_next hs rfl
  rw [hoff] at hforwardRead hforwardWrite
  exact ⟨⟨decode_spellIor_of_handler hport hread, hforwardRead⟩,
    ⟨decode_spellIow_of_handler hport (hwrite d), hforwardWrite⟩⟩

/-! ### Speech control and the write-only ports -/

/-- Settles O31: 0x0B is dispatched to the speech control write, which drives mode-select and then bank-select. -/
theorem speechControlDrivesTwoLines : Obligations.SpeechControlDrivesTwoLines := fun _ _ hs =>
  ⟨decode_spellIow_of_handler rfl rfl, exec_eq_next hs rfl⟩

/-- Settles O32: each of the ports has its own read handler, which answers an external byte. -/
theorem writeOnlyPortReadsAreExternal : Obligations.WriteOnlyPortReadsAreExternal := fun s mirror hs =>
  ⟨⟨decode_spellIor_of_handler rfl rfl, exec_eq_next hs rfl⟩,
    ⟨decode_spellIor_of_handler rfl rfl, exec_eq_next hs rfl⟩,
    ⟨decode_spellIor_of_handler (add_setWidth_eq_windowPort (base := Config.spkDataBase) rfl mirror)
      (handlers_spkData s.params mirror).1, exec_eq_next hs rfl⟩⟩

/-! ### The unmapped ports -/

/-- Settles O37: the four fixed ports and the upper three quarters have handlers of their own, a free port the unmapped one if no parameter takes it. -/
theorem unmappedReadsReturnIdle : Obligations.UnmappedReadsReturnIdle := by
  intro s hs t
  refine ⟨⟨decode_spellIor_of_handler rfl rfl, exec_eq_next hs rfl⟩,
    fun off => ⟨?_, exec_eq_next hs rfl⟩,
    ⟨decode_spellIor_of_handler rfl rfl, exec_eq_next hs rfl⟩,
    fun a hfree henable hselect hcoord hrowsel hmode hunused => ⟨?_, exec_eq_next hs rfl⟩,
    fun off => ⟨?_, exec_eq_next hs rfl⟩, fun off => ⟨?_, exec_eq_next hs rfl⟩⟩
  · exact decode_spellIor_of_handler (add_setWidth_eq_windowPort (base := Config.unid0E) rfl off)
      (handlers_unid0E0F s.params off).1
  · exact decode_spellIor_of_handler rfl (readHandler_of_untaken hfree
      (Params.takenForRead_eq_false.mpr ⟨henable, hselect, hcoord, hrowsel, hmode, hunused⟩))
  · exact decode_spellIor_of_handler (add_setWidth_eq_windowPort (base := Config.unmapped40) rfl off)
      (handlers_unmapped407F s.params off).1
  · exact decode_spellIor_of_handler (add_setWidth_eq_windowPort (base := Config.unmapped80) rfl off)
      (handlers_unmapped80FF s.params off).1

/-- Settles O38: the upper three quarters have discarding handlers of their own, a free port the unmapped one if no parameter takes it. -/
theorem unmappedWritesAreDiscarded : Obligations.UnmappedWritesAreDiscarded := by
  intro s d hs t
  refine ⟨fun a hfree henable hselect hrowsel hmode hunused => ⟨?_, exec_eq_next hs rfl⟩,
    fun off => ⟨?_, exec_eq_next hs rfl⟩, fun off => ⟨?_, exec_eq_next hs rfl⟩⟩
  · exact decode_spellIow_of_handler rfl (writeHandler_of_untaken d hfree
      (Params.takenForWrite_eq_false.mpr ⟨henable, hselect, hrowsel, hmode, hunused⟩))
  · exact decode_spellIow_of_handler (add_setWidth_eq_windowPort (base := Config.unmapped40) rfl off)
      ((handlers_unmapped407F s.params off).2 d)
  · exact decode_spellIow_of_handler (add_setWidth_eq_windowPort (base := Config.unmapped80) rfl off)
      ((handlers_unmapped80FF s.params off).2 d)

/-! ### The input samples of ports A and C -/

/-- Settles O39: the two samples' words carry no parameter, and the samples answer an external byte and the idle one. -/
theorem portAIsExternalAndPortCIsIdle : Obligations.PortAIsExternalAndPortCIsIdle := fun s hs =>
  ⟨⟨(decode_bareWord s.params).2.2, exec_eq_next hs rfl⟩,
    ⟨decode_pcWord s.params false 0#8, exec_eq_next hs rfl⟩⟩

end Sys2Proof.Machine
end

section
/-! PROOFS. The statements of 42_touchpad.md about the touch input, the control reads and the port-B sample, and those about reset. -/

namespace Sys2Proof.Machine

/-- Settles O42: the rows after the input are the rows before with one replaced. -/
theorem touchInputSetsOneRow : Obligations.TouchInputSetsOneRow := by
  intro s r c hs
  refine ⟨by rw [spellRow_eq_rowWord, decode_rowWord], s.blk.row.set r.val c r.isLt, ?_, fun j hj => ?_,
    exec_eq_next hs rfl⟩
  · exact Vector.getElem_set_self r.isLt
  · exact Vector.getElem_set_ne r.isLt j.isLt fun h => hj (Fin.ext h.symm)

/-- Settles O45: the control port's read handler is the external one, since the port is not the coordinate port. -/
theorem touchpadControlReadsAreExternal : Obligations.TouchpadControlReadsAreExternal := fun s _ hs hcoord =>
  ⟨decode_spellIor_of_handler rfl (s.inst.readHandler_tpPort hcoord), exec_eq_next hs rfl⟩

/-! ### The port-B sample -/

/-- A port-B sample on a running block (42_touchpad.md R125). -/
theorem exec_pbin {s : State} (h : s.running) :
    exec .pbin s = .next
      { s with
        blk := (s.blk.samplePortB s.params (Config.ext .tapeBits s.io.tick)).1
        io := { s.io with
          result := some (s.blk.samplePortB s.params (Config.ext .tapeBits s.io.tick)).2, tick := s.io.tick + 1 } } :=
  exec_eq_next h rfl

/-- The two port-B status bits differ (00_scope.md R7). -/
theorem pbAvailBit_ne_pbPressBit (c : Instantiation) : c.params.pbAvailBit ≠ c.params.pbPressBit := by
  have h := c.obeys
  simp only [Params.valid, Bool.and_eq_true, bne_iff_ne] at h
  tauto

/-- Settles O46: the sample is a scan, and each bit of its byte is one of the two status bits or the environment's. -/
theorem portBSampleScansWhileEnabled : Obligations.PortBSampleScansWhileEnabled := by
  intro s hs hscan
  have hne := pbAvailBit_ne_pbPressBit s.inst
  have hsample : s.blk.samplePortB s.params (Config.ext .tapeBits s.io.tick) = ((s.blk.isPressed s.params).1,
      portBScanning s.params (Config.ext .tapeBits s.io.tick) (s.blk.isPressed s.params).2) :=
    if_pos (Block.scanEnable_eq_true_iff.mpr hscan)
  refine ⟨(decode_bareWord s.params).2.1, _, ?_, ?_, fun i havail hpress => ?_, (exec_pbin hs).trans (by rw [hsample])⟩
  · rw [bitAt_portBScanning, if_neg hne.symm, if_pos rfl]
  · rw [bitAt_portBScanning, if_pos rfl, Bool.not_eq_true', ← Bool.not_eq_true, Block.isPressed_answer_iff]
    simp only [not_exists, not_not]
  · rw [bitAt_portBScanning, if_neg hpress.symm, if_neg havail.symm]

/-- Settles O47: the sample does not scan, and each bit of its byte is one of the two status bits or the environment's. -/
theorem portBSampleDoesNotScanWhileDisabled : Obligations.PortBSampleDoesNotScanWhileDisabled := by
  intro s hs hscan
  have hne := pbAvailBit_ne_pbPressBit s.inst
  have hsample : s.blk.samplePortB s.params (Config.ext .tapeBits s.io.tick) =
      (s.blk, portBIdle s.params (Config.ext .tapeBits s.io.tick)) :=
    if_neg (Bool.eq_false_iff.mp (Block.scanEnable_eq_false_iff.mpr hscan))
  refine ⟨_, ?_, ?_, fun i havail hpress => ?_, (exec_pbin hs).trans (by rw [hsample])⟩
  · rw [bitAt_portBIdle, if_neg hne.symm, if_pos rfl]
  · rw [bitAt_portBIdle, if_pos rfl]
  · rw [bitAt_portBIdle, if_neg hpress.symm, if_neg havail.symm]

/-! ### Reset -/

/-- The touchpad control registers are zero after reset (10_state.md R43). -/
theorem Block.reset_tp (r : TpReg) : Block.reset.tp r = 0#8 := by
  cases r <;> rfl

/-- Settles O51: the fields are the values they are reset to, and the two flags are bits of control registers that are zero. -/
theorem resetLeavesTheDecidedValues : Obligations.ResetLeavesTheDecidedValues := by
  have hscan : Block.reset.scanEnable State.reset.params = false :=
    Block.scanEnable_eq_false_iff.mpr (by rw [Block.reset_tp, BitVec.zero_and])
  have hselect : Block.reset.columnSelect State.reset.params = false := by
    rw [Block.columnSelect, Block.reset_tp, BitVec.zero_and]
    rfl
  have hrows : ∀ r : Fin 20, Block.reset.row[r] = 0#24 := fun r => Vector.getElem_replicate r.isLt
  exact ⟨rfl, rfl, rfl, rfl, rfl, rfl, rfl, rfl, hrows, rfl, rfl, rfl, hscan, hselect⟩

end Sys2Proof.Machine
end

section
/-! PROOFS. The statements that compare operations and runs: what they return, repeating and exchanging them, performing them in two states, and
what a run leaves of the boundary. -/

namespace Sys2Proof.Machine

/-! ### What an operation returns (20_memory.md R49, R50) -/

/-- The operation returns a byte in every state that performs it. Only INTA returns one in some states and not in others. -/
def Instr.returnsByte : Instr → Bool
  | .pbin | .pain | .pcin => true
  | i => i.opClass == .ior

theorem Instr.returnsByte_iff (i : Instr) :
    Instr.returnsByte i = true ↔ i.opClass = .ior ∨ i = .pbin ∨ i = .pain ∨ i = .pcin := by
  cases i <;> simp [Instr.returnsByte, Instr.opClass]

/-- Every operation but INTA returns a byte always or never. -/
theorem exec_eq_operate_result {i : Instr} (hi : i ≠ .inta) : ∃ k : State → State, (∀ s, exec i s = s.operate k) ∧
    ∀ s, (k s).io.result.isSome = Instr.returnsByte i := by
  cases i with
  | inta => exact absurd rfl hi
  | _ => exact ⟨_, fun _ => rfl, fun _ => rfl⟩

theorem exec_result_isSome {i : Instr} {s t : State} (hi : i ≠ .inta) (h : exec i s = .next t) :
    t.io.result.isSome = Instr.returnsByte i := by
  obtain ⟨k, hk, hres⟩ := exec_eq_operate_result hi
  rw [hk] at h
  obtain ⟨_, rfl⟩ := State.operate_eq_next h
  exact hres s

/-- An acknowledge on a running block returns a byte exactly if it leaves the block running (60_exceptions.md R133). -/
theorem Block.acknowledge_isSome_iff {p : Params} {b : Block} (h : b.fault = none) :
    (b.acknowledge p).2.isSome = true ↔ (b.acknowledge p).1.fault = none := by
  rcases b.acknowledge_cases p with ⟨src, _, hack⟩ | ⟨_, hack⟩ <;> simp [hack, h]

/-- An I/O read has no effect on the block (20_memory.md R50). -/
theorem blockEffect_of_ior {i : Instr} (h : i.opClass = .ior) (p : Params) (tape : Byte) (b : Block) :
    blockEffect p tape b i = b := by
  rcases blockEffect_cases p tape b i with he | ⟨_, rfl, _⟩ | ⟨_, rfl, _⟩ | ⟨_, rfl, _⟩ | ⟨_, rfl, _⟩ | ⟨rfl, _⟩ |
    ⟨_, rfl, _⟩ | ⟨_, _, rfl | rfl | rfl, _⟩ | ⟨_, _, rfl, _⟩ | ⟨rfl, _⟩
  · exact he
  all_goals cases h

/-- Settles O53: a read has no effect on the block and is one of the operations that always return a byte. -/
theorem portReadsLeaveTheBlockUnchanged : Obligations.PortReadsLeaveTheBlockUnchanged := by
  intro s i hs hi
  obtain ⟨t, hexec, hb⟩ := exec_running hs i
  have hne : i ≠ .inta := by
    rintro rfl
    cases hi
  have hsome := (exec_result_isSome hne hexec).trans ((Instr.returnsByte_iff i).mpr (.inl hi))
  obtain ⟨v, hv⟩ := Option.isSome_iff_exists.mp hsome
  exact ⟨t, v, hexec, hb.trans (blockEffect_of_ior hi _ _ _), hv⟩

/-- Settles O54: INTA returns a byte unless it is fatal, and every other operation returns one always or never. -/
theorem onlyReadingOperationsReturnAByte : Obligations.OnlyReadingOperationsReturnAByte := by
  intro s t i h
  by_cases hi : i = .inta
  · subst hi
    obtain ⟨hs, _⟩ := exec_next h
    cases (exec_inta hs).symm.trans h
    simpa [Instr.opClass] using Block.acknowledge_isSome_iff hs
  · rw [exec_result_isSome hi h, Instr.returnsByte_iff]
    simp [hi]

/-! ### Repeating an operation (20_memory.md R51) -/

/-- The block after a port-B sample does not depend on the environment's byte (42_touchpad.md R125). -/
theorem Block.samplePortB_block (p : Params) (tape : Byte) (b : Block) :
    (b.samplePortB p tape).1 = if b.scanEnable p = true then (b.isPressed p).1 else b := by
  unfold Block.samplePortB
  split <;> rfl

/-- No effect on the block depends on the environment's byte. -/
theorem blockEffect_tape (p : Params) (tape tape' : Byte) (b : Block) (i : Instr) :
    blockEffect p tape b i = blockEffect p tape' b i := by
  cases i with
  | pbin => exact (b.samplePortB_block p tape).trans (b.samplePortB_block p tape').symm
  | _ => rfl

theorem putBit_putBit (v : Byte) (i : Fin 8) (x : Bool) : putBit (putBit v i x) i x = putBit v i x :=
  byte_ext fun j => by
    simp only [bitAt_putBit]
    split <;> rfl

/-- A scan finds what a scan just before it found (42_touchpad.md R121). -/
theorem Block.isPressed_idempotent (p : Params) (b : Block) : ((b.isPressed p).1.isPressed p).1 = (b.isPressed p).1 := by
  rcases b.isPressed_cases p with ⟨r, c, hcell, hscan⟩ | ⟨_, hscan⟩
  · rw [hscan]
    exact congrArg Prod.fst (Block.isPressed_of_firstTouched_eq_some
      (b := { b with sampledX := p.xtab[c], sampledY := p.ytab[r] }) p hcell)
  · rw [hscan, hscan]

/-- A scan writes no control register (42_touchpad.md R124). -/
theorem Block.isPressed_scanEnable (p : Params) (b : Block) : (b.isPressed p).1.scanEnable p = b.scanEnable p := by
  rcases b.isPressed_cases p with ⟨_, _, _, hscan⟩ | ⟨_, hscan⟩ <;> rw [hscan]
  rfl

theorem Block.samplePortB_idempotent (p : Params) (tape tape' : Byte) (b : Block) :
    ((b.samplePortB p tape).1.samplePortB p tape').1 = (b.samplePortB p tape).1 := by
  simp only [Block.samplePortB_block]
  split
  · rename_i hscan
    rw [Block.isPressed_scanEnable, if_pos hscan, Block.isPressed_idempotent]
  · rfl

/-- Settles O55: each of the writes stores what it stored, and a second scan finds the cell of the first. -/
theorem repeatedWritesAndSamplesAreIdempotent : Obligations.RepeatedWritesAndSamplesAreIdempotent := by
  intro s t u i d hi hfirst hsecond
  obtain ⟨_, hinst, _, ht⟩ := exec_next hfirst
  obtain ⟨_, _, _, hu⟩ := exec_next hsecond
  rw [hu, ht, State.params, hinst]
  rcases hi with rfl | rfl | rfl | rfl | rfl | rfl | rfl
  · rfl
  · change (s.blk.writeSelect d).writeSelect d = s.blk.writeSelect d
    rw [Block.writeSelect_eq_writeEnable (s.blk.writeSelect d), Block.writeSelect_enabled, Block.writeSelect_enabled,
      putBit_putBit]
    rfl
  · rfl
  · rfl
  · rfl
  · rfl
  · exact s.blk.samplePortB_idempotent _ _ _

/-! ### Exchanging an access and a callback (20_memory.md R56) -/

/-- Settles O56: a forwarded access keeps the block, and the callback's effect depends on the block alone. -/
theorem forwardedAccessCommutesWithACallback : Obligations.ForwardedAccessCommutesWithACallback := by
  intro s t u t' u' i cb off2 off1 off5 d hi _ hst htu hst' htu'
  have hkeeps : ∀ p tape b, blockEffect p tape b i = b := by
    rcases hi with rfl | rfl | rfl | rfl | rfl | rfl | rfl | rfl | rfl | rfl <;> exact fun _ _ _ => rfl
  obtain ⟨_, hinst, _, ht⟩ := exec_next hst
  obtain ⟨_, _, _, hu⟩ := exec_next htu
  obtain ⟨_, _, _, ht'⟩ := exec_next hst'
  obtain ⟨_, _, _, hu'⟩ := exec_next htu'
  calc u.blk
      = blockEffect s.params (Config.ext .tapeBits t.io.tick) s.blk cb := by rw [hu, ht, hkeeps, State.params, hinst]
    _ = blockEffect s.params (Config.ext .tapeBits s.io.tick) s.blk cb := blockEffect_tape _ _ _ _ _
    _ = u'.blk := by rw [hu', ht', hkeeps]

/-! ### One step in two states (00_scope.md R2) -/

/-- Two steps with one instantiation and the same words presented are both idle, or perform one operation. -/
theorem step_next_pair {s₁ s₂ t₁ t₂ : State} (hinst : s₁.inst = s₂.inst) (hin : s₁.io.inbox = s₂.io.inbox)
    (h₁ : step s₁ = .next t₁) (h₂ : step s₂ = .next t₂) :
    (t₁ = s₁ ∧ t₂ = s₂) ∨ ∃ i tape₁ tape₂,
      t₁.blk = blockEffect s₁.params tape₁ s₁.blk i ∧ t₂.blk = blockEffect s₁.params tape₂ s₂.blk i := by
  obtain ⟨_, ⟨hnil, ht₁⟩ | ⟨w, rest, i, hcons, hd, he⟩⟩ := step_cases h₁
  · rw [step_idle (step_cases h₂).1 (hin ▸ hnil)] at h₂
    cases h₂
    exact .inl ⟨ht₁, rfl⟩
  · have hd₂ : decode s₂.params w = .ok i := by rw [State.params, ← hinst]; exact hd
    rw [step_of_decode_ok (step_cases h₂).1 (hin ▸ hcons) hd₂] at h₂
    obtain ⟨_, _, _, hb₁⟩ := exec_next he
    obtain ⟨_, _, _, hb₂⟩ := exec_next h₂
    refine .inr ⟨i, _, Config.ext .tapeBits s₂.io.tick, hb₁, ?_⟩
    rw [State.params, hinst]
    exact hb₂

/-- The arbiter's choice reads the two masks alone (40_interrupt.md R84). -/
theorem Block.chosenSource_congr {p : Params} {b₁ b₂ : Block} (hp : b₁.pending = b₂.pending)
    (he : b₁.enabled = b₂.enabled) : b₁.chosenSource p = b₂.chosenSource p := by
  rw [Block.chosenSource, Block.chosenSource, hp, he]

theorem acknowledge_interruptPart_congr (p : Params) {b₁ b₂ : Block} (h : b₁.interruptPart = b₂.interruptPart) :
    (b₁.acknowledge p).1.interruptPart = (b₂.acknowledge p).1.interruptPart := by
  have hchosen := Block.chosenSource_congr (p := p) (congrArg InterruptPart.pending h) (congrArg InterruptPart.enabled h)
  rw [Block.acknowledge, Block.acknowledge, hchosen]
  cases b₁
  cases b₂
  cases h
  split <;> rfl

/-- The interrupt part after an operation is a function of the interrupt part before it. -/
theorem blockEffect_interruptPart_congr (p : Params) (tape₁ tape₂ : Byte) {b₁ b₂ : Block} (i : Instr)
    (h : b₁.interruptPart = b₂.interruptPart) :
    (blockEffect p tape₁ b₁ i).interruptPart = (blockEffect p tape₂ b₂ i).interruptPart := by
  cases i with
  | inta => exact acknowledge_interruptPart_congr p h
  | pbin => exact (samplePortB_interruptPart p tape₁ b₁).trans (h.trans (samplePortB_interruptPart p tape₂ b₂).symm)
  | _ =>
    cases b₁
    cases b₂
    cases h
    rfl

theorem isPressed_touchpadPart_congr (p : Params) {b₁ b₂ : Block} (h : b₁.touchpadPart = b₂.touchpadPart) :
    (b₁.isPressed p).1.touchpadPart = (b₂.isPressed p).1.touchpadPart := by
  have hrow : b₁.row = b₂.row := congrArg TouchpadPart.row h
  rcases b₁.isPressed_cases p with ⟨r, c, hcell, hscan⟩ | ⟨hcell, hscan⟩
  · rw [hscan, Block.isPressed_of_firstTouched_eq_some p (hrow ▸ hcell)]
    cases b₁
    cases b₂
    cases h
    rfl
  · rw [hscan, Block.isPressed_of_firstTouched_eq_none p (hrow ▸ hcell)]
    exact h

/-- Scan-enable is a bit of the touchpad part (10_state.md R29). -/
theorem Block.scanEnable_congr (p : Params) {b₁ b₂ : Block} (h : b₁.touchpadPart = b₂.touchpadPart) :
    b₁.scanEnable p = b₂.scanEnable p := by
  cases b₁
  cases b₂
  cases h
  rfl

/-- The touchpad part after an operation is a function of the touchpad part before it. -/
theorem blockEffect_touchpadPart_congr (p : Params) (tape₁ tape₂ : Byte) {b₁ b₂ : Block} (i : Instr)
    (h : b₁.touchpadPart = b₂.touchpadPart) :
    (blockEffect p tape₁ b₁ i).touchpadPart = (blockEffect p tape₂ b₂ i).touchpadPart := by
  cases i with
  | inta => exact (acknowledge_touchpadPart p b₁).trans (h.trans (acknowledge_touchpadPart p b₂).symm)
  | pbin =>
    change (b₁.samplePortB p tape₁).1.touchpadPart = (b₂.samplePortB p tape₂).1.touchpadPart
    rw [Block.samplePortB_block, Block.samplePortB_block, Block.scanEnable_congr p h]
    split
    · exact isPressed_touchpadPart_congr p h
    · exact h
  | _ =>
    cases b₁
    cases b₂
    cases h
    rfl

/-- Settles O57: both steps perform one operation, whose effect on the interrupt part reads the interrupt part alone. -/
theorem interruptPartIsIndependentOfTheTouchpad : Obligations.InterruptPartIsIndependentOfTheTouchpad := by
  intro s₁ s₂ t₁ t₂ hinst hin hpart h₁ h₂
  rcases step_next_pair hinst hin h₁ h₂ with ⟨rfl, rfl⟩ | ⟨i, _, _, hb₁, hb₂⟩
  · exact hpart
  · rw [hb₁, hb₂]
    exact blockEffect_interruptPart_congr _ _ _ i hpart

/-- Settles O58: both steps perform one operation, whose effect on the touchpad part reads the touchpad part alone. -/
theorem touchpadPartIsIndependentOfInterrupts : Obligations.TouchpadPartIsIndependentOfInterrupts := by
  intro s₁ s₂ t₁ t₂ hinst hin hpart h₁ h₂
  rcases step_next_pair hinst hin h₁ h₂ with ⟨rfl, rfl⟩ | ⟨i, _, _, hb₁, hb₂⟩
  · exact hpart
  · rw [hb₁, hb₂]
    exact blockEffect_touchpadPart_congr _ _ _ i hpart

/-! ### What a run leaves of the boundary -/

/-- The outward actions of an operation, newest first (00_scope.md R10). -/
def outwardActions (p : Params) : Instr → List Action
  | .iorVdp off => [.fwdRead .vdp (regOffset off)]
  | .iowVdp off d => [.fwdWrite .vdp (regOffset off) d]
  | .iorPpi off => [.fwdRead .ppi (regOffset off)]
  | .iowPpi off d => [.fwdWrite .ppi (regOffset off) d]
  | .iorSio off => [.fwdRead .sio (regOffset off)]
  | .iowSio off d => [.fwdWrite .sio (regOffset off) d]
  | .iowSpkctl d => [.drive .bankSelect (speechBankLevel p d), .drive .modeSelect (speechModeLevel p d)]
  | .iowPsg d => [.fwdWrite .psg 0 d]
  | .iowSpkdata _ d => [.fwdWrite .speech 0 d]
  | .iorExp off => [.fwdRead .exp (regOffset off)]
  | .iowExp off d => [.fwdWrite .exp (regOffset off) d]
  | .pcout d => [.logPortC d]
  | _ => []

/-- How many values an operation asks the environment for (00_scope.md R10). -/
def valuesTaken : Instr → Nat
  | .iorVdp _ | .iorPpi _ | .iorSio _ | .iorSpkctl | .iorPsg | .iorSpkdata _ | .iorExp _ | .iorIntEnable | .iorIntSelect
  | .iorTpCtrl _ | .pbin | .pain => 1
  | _ => 0

/-- Every operation adds its outward actions to the record and its values to the count. -/
theorem exec_eq_operate_boundary (i : Instr) : ∃ k : State → State, (∀ s, exec i s = s.operate k) ∧
    ∀ s, (k s).io.trace = outwardActions s.params i ++ s.io.trace ∧ (k s).io.tick = s.io.tick + valuesTaken i := by
  cases i <;> exact ⟨_, fun _ => rfl, fun _ => ⟨rfl, rfl⟩⟩

theorem exec_boundary {i : Instr} {s t : State} (h : exec i s = .next t) :
    t.io.trace = outwardActions s.params i ++ s.io.trace ∧ t.io.tick = s.io.tick + valuesTaken i := by
  obtain ⟨k, hk, hio⟩ := exec_eq_operate_boundary i
  rw [hk] at h
  obtain ⟨_, rfl⟩ := State.operate_eq_next h
  exact hio s

/-- A step takes values and performs actions, and never gives one back. -/
theorem step_boundary {s t : State} (h : step s = .next t) :
    s.io.tick ≤ t.io.tick ∧ ∃ more, t.io.trace = more ++ s.io.trace := by
  obtain ⟨_, ⟨_, rfl⟩ | ⟨w, rest, i, _, _, he⟩⟩ := step_cases h
  · exact ⟨Nat.le_refl _, [], rfl⟩
  · obtain ⟨htrace, htick⟩ := exec_boundary he
    exact ⟨htick ▸ Nat.le_add_right _ _, _, htrace⟩

/-- Settles O59, by induction on the length of the run: each of its steps takes one word, and the rest is carried along. -/
theorem runsConsumeInOrderAndNeverRetract : Obligations.RunsConsumeInOrderAndNeverRetract := by
  intro k
  induction k with
  | zero =>
    intro s t h
    cases h
    exact ⟨rfl, rfl, Nat.le_refl _, [], rfl⟩
  | succ k ih =>
    intro s t h
    obtain ⟨s', hstep, hrun⟩ := run_succ h
    obtain ⟨_, hinst, hin, _⟩ := step_next hstep
    obtain ⟨htick, more, htrace⟩ := step_boundary hstep
    obtain ⟨hinst', hin', htick', more', htrace'⟩ := ih s' t hrun
    refine ⟨hinst'.trans hinst, ?_, htick.trans htick', more' ++ more, ?_⟩
    · rw [hin', hin, List.drop_drop, Nat.add_comm]
    · rw [htrace', htrace, List.append_assoc]

end Sys2Proof.Machine
end
